-- ==== Sys2Proof/Word.lean ====
section
/-! DEFINITION. The two word types of the block that no parameter sizes: the byte and the 16-bit field. -/

namespace Sys2Proof

/-- A byte: an unsigned integer in 0..255, bit 0 least significant (00_scope.md R12). -/
abbrev Byte := BitVec 8

/-- A 16-bit word: a raw field of a frame, or the 16-bit operand of `ISSUE` and its wrappers
(10_state.md R28 to R34, 42_command_transmitter.md R180). -/
abbrev Half := BitVec 16

end Sys2Proof
end

