-- ==== Sys2Proof/Config.lean ====
section
/-! DEFINITION. Implementation parameters (00_scope.md R6) and the named constants (R7, D28).
A parameter the spec leaves OPEN is an `opaque` constant without a body: nothing can be proved of its value. -/

namespace Sys2Proof.Config

/-! ## Decided parameters (R6; log 11) -/

/-- Width in bits of the tick counter and of every timestamp register (R6, D2). -/
abbrev TICK_W : Nat := 32

/-- Width in bits of a transport identity tag (R6, D33). -/
abbrev TAG_W : Nat := 4

/-! ## OPEN parameters (R6, R216, D18, D22; log 12) -/

/-- Register identifier used by `SAVE` (R6, R210). OPEN. -/
opaque REG_SAVE : Byte

/-- Register identifier used by `CALIBRATE` (R6, R211). OPEN. -/
opaque REG_CALIBRATE : Byte

/-- Register identifier used by `SETOUTPUTCONTENT` (R6, R212). OPEN. -/
opaque REG_OUTPUT_CONTENT : Byte

/-- Register identifier used by `SETOUTPUTRATE` (R6, R213). OPEN. -/
opaque REG_OUTPUT_RATE : Byte

/-- Register identifier used by `SETBAUDRATE` (R6, R214). OPEN. -/
opaque REG_BAUD_RATE : Byte

/-- "The legal command values for each register" (R6, R49). OPEN; no operation consults it (R183, R215). -/
opaque LEGAL_VALUES : Byte → List Half

/-- A telemetry category of the output-content mask (R6, R97). The spec does not list the categories (N17), so a category
is only a number. -/
abbrev Category := Nat

/-- Bit position of a telemetry category in the output-content mask (R6, R97). OPEN; no rule depends on it. -/
opaque CONTENT_BIT : Category → Fin 16

/-- Rate of the tick source in ticks per second (R6, D22). OPEN; no rule depends on it. -/
opaque TICK_HZ : Nat

/-! ## Constants (R7; the literals are unaudited, log 13) -/

/-- The sync byte, byte 0 of every inbound frame (R7, R90). -/
abbrev SYNC : Byte := 0x55

/-- Inbound frame length in bytes (R7, R90). -/
abbrev RX_LEN : Nat := 11

/-- Number of leading bytes summed by the checksum (R7, R93). -/
abbrev SUM_LEN : Nat := 10

/-- Outbound frame length in bytes (R7, R95). -/
abbrev TX_LEN : Nat := 5

/-- Type code: acceleration and temperature (R7, R92). -/
abbrev TYPE_ACC : Byte := 0x51

/-- Type code: angular velocity and voltage (R7, R92). -/
abbrev TYPE_GYRO : Byte := 0x52

/-- Type code: angle and version (R7, R92). -/
abbrev TYPE_ANGLE : Byte := 0x53

/-- Type code: magnetic field and temperature (R7, R92). -/
abbrev TYPE_MAG : Byte := 0x54

/-- Type code: register-read echo (R7, R92). -/
abbrev TYPE_ECHO : Byte := 0x5F

/-- First byte of every outbound frame (R7, R95). -/
abbrev HDR0 : Byte := 0xFF

/-- Second byte of every outbound frame (R7, R95). -/
abbrev HDR1 : Byte := 0xAA

/-- Third byte of the unlock frame: its register identifier when read as TX5 (R96). -/
abbrev UNLOCK_REG : Byte := 0x69

/-- Fourth byte of the unlock frame (R96). -/
abbrev UNLOCK_LO : Byte := 0x88

/-- Fifth byte of the unlock frame (R96). -/
abbrev UNLOCK_HI : Byte := 0xB5

/-- The fixed unlock frame `FF AA 69 88 B5` (R7, R96). -/
abbrev UNLOCK : Vector Byte TX_LEN := #v[HDR0, HDR1, UNLOCK_REG, UNLOCK_LO, UNLOCK_HI]

end Sys2Proof.Config

namespace Sys2Proof

/-- A tick value, in `0 .. 2^TICK_W - 1` (00_scope.md R12). -/
abbrev Tick := BitVec Config.TICK_W

/-- The identity of a transport instance (00_scope.md R16). -/
abbrev Tag := BitVec Config.TAG_W

end Sys2Proof

namespace Sys2Proof.Config

/-- Minimum elapsed ticks unlock to command and command to idle (R7, R187, R188). -/
abbrev T_GAP : Tick := 10

/-- Staleness limit: restart when elapsed is strictly greater (R7, R231). -/
abbrev T_STALE : Tick := 100

/-- Minimum elapsed ticks between restarts (R7, R232). -/
abbrev T_RESTART : Tick := 100

/-- Numerator of the acceleration scale, g per count (R7). -/
abbrev ACC_NUM : Rat := 16

/-- Denominator of the acceleration scale (R7). -/
abbrev ACC_DEN : Rat := 32768

/-- Numerator of the angular velocity scale, deg/s per count (R7). -/
abbrev GYRO_NUM : Rat := 2000

/-- Denominator of the angular velocity scale (R7). -/
abbrev GYRO_DEN : Rat := 32768

/-- Numerator of the angle scale, deg per count (R7). -/
abbrev ANGLE_NUM : Rat := 180

/-- Denominator of the angle scale (R7). -/
abbrev ANGLE_DEN : Rat := 32768

/-- Divisor of temperature (degrees C) and voltage (V) (R7). -/
abbrev CENTI : Rat := 100

end Sys2Proof.Config
end

