-- ==== Sys2Proof/Syntax.lean ====
section
/-! DEFINITION. The instructions: one constructor per row of spec/opcode_table.json. Inbound frames (RX11) and outbound
frames (TX5) carry the fields of their row; event words (EV64) carry the operands of their operation. -/

namespace Sys2Proof

/-- The eight payload bytes of an inbound frame, frame bytes 2 to 9 (30_encoding.md R90). -/
structure Payload where
  d0 : Byte
  d1 : Byte
  d2 : Byte
  d3 : Byte
  d4 : Byte
  d5 : Byte
  d6 : Byte
  d7 : Byte
deriving DecidableEq, Repr

/-- The 18 rows of spec/opcode_table.json. -/
inductive Instr where
  /-- FRAME.ACC: a frame of type 0x51 (R152); `cs` is its checksum byte. -/
  | frameAcc (d : Payload) (cs : Byte)
  /-- FRAME.GYRO: a frame of type 0x52 (R153). -/
  | frameGyro (d : Payload) (cs : Byte)
  /-- FRAME.ANGLE: a frame of type 0x53 (R154). -/
  | frameAngle (d : Payload) (cs : Byte)
  /-- FRAME.MAG: a frame of type 0x54 (R155). -/
  | frameMag (d : Payload) (cs : Byte)
  /-- FRAME.ECHO: a frame of type 0x5F (R156). -/
  | frameEcho (d : Payload) (cs : Byte)
  /-- FRAME.OTHER: a frame of any other type code `type` (R157). -/
  | frameOther (type : Byte) (d : Payload) (cs : Byte)
  /-- TX.UNLOCK: the fixed unlock frame (R191). -/
  | txUnlock
  /-- TX.COMMAND: a command frame `FF AA reg valLo valHi` (R192). -/
  | txCommand (reg valLo valHi : Byte)
  /-- INIT (R290). -/
  | init (tag : Tag)
  /-- RXBYTE: one byte has arrived (R120). -/
  | rxByte (tag : Tag) (b : Byte) (now : Tick)
  /-- ISSUE (R180). -/
  | issue (reg : Byte) (val : Half)
  /-- DRIVE (R184). -/
  | drive (now : Tick)
  /-- CHECKWATCHDOG (R230). -/
  | checkWatchdog (now : Tick)
  /-- SAVE (R210). -/
  | save (val : Half)
  /-- CALIBRATE (R211). -/
  | calibrate (val : Half)
  /-- SETOUTPUTCONTENT (R212). -/
  | setOutputContent (mask : Half)
  /-- SETOUTPUTRATE (R213). -/
  | setOutputRate (val : Half)
  /-- SETBAUDRATE (R214). -/
  | setBaudRate (val : Half)
deriving DecidableEq, Repr

namespace Instr

/-- The row's mnemonic in spec/opcode_table.json. -/
def mnemonic : Instr → String
  | .frameAcc _ _ => "FRAME.ACC"
  | .frameGyro _ _ => "FRAME.GYRO"
  | .frameAngle _ _ => "FRAME.ANGLE"
  | .frameMag _ _ => "FRAME.MAG"
  | .frameEcho _ _ => "FRAME.ECHO"
  | .frameOther _ _ _ => "FRAME.OTHER"
  | .txUnlock => "TX.UNLOCK"
  | .txCommand _ _ _ => "TX.COMMAND"
  | .init _ => "INIT"
  | .rxByte _ _ _ => "RXBYTE"
  | .issue _ _ => "ISSUE"
  | .drive _ => "DRIVE"
  | .checkWatchdog _ => "CHECKWATCHDOG"
  | .save _ => "SAVE"
  | .calibrate _ => "CALIBRATE"
  | .setOutputContent _ => "SETOUTPUTCONTENT"
  | .setOutputRate _ => "SETOUTPUTRATE"
  | .setBaudRate _ => "SETBAUDRATE"

/-- The tick value the event carries, if it carries one (30_encoding.md R101). -/
def now? : Instr → Option Tick
  | .rxByte _ _ now => some now
  | .drive now => some now
  | .checkWatchdog now => some now
  | .frameAcc _ _ => none
  | .frameGyro _ _ => none
  | .frameAngle _ _ => none
  | .frameMag _ _ => none
  | .frameEcho _ _ => none
  | .frameOther _ _ _ => none
  | .txUnlock => none
  | .txCommand _ _ _ => none
  | .init _ => none
  | .issue _ _ => none
  | .save _ => none
  | .calibrate _ => none
  | .setOutputContent _ => none
  | .setOutputRate _ => none
  | .setBaudRate _ => none

end Instr

end Sys2Proof
end

