-- ==== Sys2Proof/WellFormed.lean ====
section
/-! DEFINITION. Well-formed instructions: the conditions of spec/opcode_table.json that a mask cannot express
(30_encoding.md R105, `constraint`), and the row choice R105 fixes where two rows match. -/

namespace Sys2Proof

/-- The checksum an encoder writes: `u8(0x55 + type + d0 + ... + d7)` (30_encoding.md R93). The sum is exact in `Nat` and
truncated once. -/
def checksumOf (type : Byte) (d : Payload) : Byte :=
  BitVec.ofNat 8
    (Config.SYNC.toNat + type.toNat + d.d0.toNat + d.d1.toNat + d.d2.toNat + d.d3.toNat + d.d4.toNat + d.d5.toNat
      + d.d6.toNat + d.d7.toNat)

/-- The type codes with a row of their own (30_encoding.md R92). -/
def recognisedType (type : Byte) : Bool :=
  type == Config.TYPE_ACC || type == Config.TYPE_GYRO || type == Config.TYPE_ANGLE || type == Config.TYPE_MAG
    || type == Config.TYPE_ECHO

/-- The bytes of a command frame are the unlock frame's (30_encoding.md R96). -/
def isUnlock (reg valLo valHi : Byte) : Bool :=
  reg == Config.UNLOCK_REG && valLo == Config.UNLOCK_LO && valHi == Config.UNLOCK_HI

/-- Well-formed: the row's constraint holds, and the row is the one R105 selects for its bytes. A frame whose checksum does
not match, a FRAME.OTHER with a recognised type code, and a TX.COMMAND with the unlock frame's bytes are not well-formed.
(They still have a meaning: logs 7 and 9.) -/
def Instr.wellFormed : Instr → Bool
  | .frameAcc d cs => cs == checksumOf Config.TYPE_ACC d
  | .frameGyro d cs => cs == checksumOf Config.TYPE_GYRO d
  | .frameAngle d cs => cs == checksumOf Config.TYPE_ANGLE d
  | .frameMag d cs => cs == checksumOf Config.TYPE_MAG d
  | .frameEcho d cs => cs == checksumOf Config.TYPE_ECHO d
  | .frameOther type d cs => !recognisedType type && cs == checksumOf type d
  | .txUnlock => true
  | .txCommand reg valLo valHi => !isUnlock reg valLo valHi
  | .init _ => true
  | .rxByte _ _ _ => true
  | .issue _ _ => true
  | .drive _ => true
  | .checkWatchdog _ => true
  | .save _ => true
  | .calibrate _ => true
  | .setOutputContent _ => true
  | .setOutputRate _ => true
  | .setBaudRate _ => true

end Sys2Proof
end

