-- ==== Sys2Proof/Decode.lean ====
section
/-! DEFINITION. Decoding and encoding of the words of spec/opcode_table.json (30_encoding.md R90 to R105). A word is a list
of bytes, leftmost byte of the table's pattern first: for a frame the wire order, for an event word bits [63:56] first
(R105; log 10). The length selects the format (R98: every encoding is fixed-length). -/

namespace Sys2Proof

/-- Why a list of bytes is no word of the table. -/
inductive DecodeError where
  /-- Not 11, 5 or 8 bytes: no format has this length (R98). -/
  | badLength (n : Nat)
  /-- Eleven bytes that do not begin with the sync byte (R90, R94 (a)). -/
  | noSync (b : Byte)
  /-- Five bytes that do not begin with `FF AA` (R95). -/
  | noHeader (b0 b1 : Byte)
  /-- An event word with `op` = 0 or 0xB..0xF: "reserved event opcode" (R102, U7). -/
  | reservedEventOpcode (op : BitVec 4)
deriving DecidableEq, Repr

/-! ## Field helpers -/

/-- The high nibble of a byte: bits [63:60] of an event word are `op` (R100). -/
def hiNibble (b : Byte) : BitVec 4 := b.extractLsb' 4 4

/-- The low nibble of a byte: bits [59:56] of an event word are `tag` (R100). -/
def loNibble (b : Byte) : BitVec 4 := b.extractLsb' 0 4

/-- Two bytes, left one high: bits [47:32] of an event word are `v16` (R100). -/
def join16 (hi lo : Byte) : Half := hi ++ lo

/-- Four bytes, leftmost highest: bits [31:0] of an event word are `now` (R100). -/
def join32 (b3 b2 b1 b0 : Byte) : BitVec 32 := b3 ++ b2 ++ b1 ++ b0

/-- Byte `k` of a word, byte 0 in bits [7:0]. -/
def byteOf {w : Nat} (v : BitVec w) (k : Nat) : Byte := v.extractLsb' (8 * k) 8

/-! ## Decoding -/

/-- An RX11 word: dispatch on the type code by equality; the five recognised codes have the longer mask (R92, R105). The
checksum is carried, not tested: it is the row's `constraint`, which `Instr.wellFormed` states (log 7). -/
def decodeFrame (sync type : Byte) (d : Payload) (cs : Byte) : Except DecodeError Instr :=
  if sync ≠ Config.SYNC then .error (.noSync sync)
  else if type = Config.TYPE_ACC then .ok (.frameAcc d cs)
  else if type = Config.TYPE_GYRO then .ok (.frameGyro d cs)
  else if type = Config.TYPE_ANGLE then .ok (.frameAngle d cs)
  else if type = Config.TYPE_MAG then .ok (.frameMag d cs)
  else if type = Config.TYPE_ECHO then .ok (.frameEcho d cs)
  else .ok (.frameOther type d cs)

/-- A TX5 word: the unlock frame's row has the longer mask (R96, R105; log 9). -/
def decodeTx (h0 h1 reg valLo valHi : Byte) : Except DecodeError Instr :=
  if h0 ≠ Config.HDR0 ∨ h1 ≠ Config.HDR1 then .error (.noHeader h0 h1)
  else if isUnlock reg valLo valHi then .ok .txUnlock
  else .ok (.txCommand reg valLo valHi)

/-- An EV64 word, by `op` (R101); fields the operation does not use are ignored and a reserved `op` is refused by name
(R102). -/
def decodeEvent (op tag : BitVec 4) (a8 : Byte) (v16 : Half) (now : Tick) : Except DecodeError Instr :=
  if op = 0x1 then .ok (.init tag)
  else if op = 0x2 then .ok (.rxByte tag a8 now)
  else if op = 0x3 then .ok (.issue a8 v16)
  else if op = 0x4 then .ok (.drive now)
  else if op = 0x5 then .ok (.checkWatchdog now)
  else if op = 0x6 then .ok (.save v16)
  else if op = 0x7 then .ok (.calibrate v16)
  else if op = 0x8 then .ok (.setOutputContent v16)
  else if op = 0x9 then .ok (.setOutputRate v16)
  else if op = 0xA then .ok (.setBaudRate v16)
  else .error (.reservedEventOpcode op)

/-- The instruction of a word: total on any bytes, refusing by name. -/
def decode : List Byte → Except DecodeError Instr
  | [b0, b1, b2, b3, b4, b5, b6, b7, b8, b9, b10] => decodeFrame b0 b1 ⟨b2, b3, b4, b5, b6, b7, b8, b9⟩ b10
  | [b0, b1, b2, b3, b4] => decodeTx b0 b1 b2 b3 b4
  | [b0, b1, b2, b3, b4, b5, b6, b7] =>
    decodeEvent (hiNibble b0) (loNibble b0) b1 (join16 b2 b3) (join32 b4 b5 b6 b7)
  | bs => .error (.badLength bs.length)

/-! ## Encoding -/

/-- An RX11 word (R90). -/
def encodeFrame (type : Byte) (d : Payload) (cs : Byte) : List Byte :=
  [Config.SYNC, type, d.d0, d.d1, d.d2, d.d3, d.d4, d.d5, d.d6, d.d7, cs]

/-- An EV64 word (R100). -/
def encodeEvent (op tag : BitVec 4) (a8 : Byte) (v16 : Half) (now : Tick) : List Byte :=
  [op ++ tag, a8, byteOf v16 1, byteOf v16 0, byteOf now 3, byteOf now 2, byteOf now 1, byteOf now 0]

/-- The bytes of an instruction; unused fields of an event word are written 0 (R102). -/
def encode : Instr → List Byte
  | .frameAcc d cs => encodeFrame Config.TYPE_ACC d cs
  | .frameGyro d cs => encodeFrame Config.TYPE_GYRO d cs
  | .frameAngle d cs => encodeFrame Config.TYPE_ANGLE d cs
  | .frameMag d cs => encodeFrame Config.TYPE_MAG d cs
  | .frameEcho d cs => encodeFrame Config.TYPE_ECHO d cs
  | .frameOther type d cs => encodeFrame type d cs
  | .txUnlock => [Config.HDR0, Config.HDR1, Config.UNLOCK_REG, Config.UNLOCK_LO, Config.UNLOCK_HI]
  | .txCommand reg valLo valHi => [Config.HDR0, Config.HDR1, reg, valLo, valHi]
  | .init tag => encodeEvent 0x1 tag 0 0 0
  | .rxByte tag b now => encodeEvent 0x2 tag b 0 now
  | .issue reg val => encodeEvent 0x3 0 reg val 0
  | .drive now => encodeEvent 0x4 0 0 0 now
  | .checkWatchdog now => encodeEvent 0x5 0 0 0 now
  | .save val => encodeEvent 0x6 0 0 val 0
  | .calibrate val => encodeEvent 0x7 0 0 val 0
  | .setOutputContent mask => encodeEvent 0x8 0 0 mask 0
  | .setOutputRate val => encodeEvent 0x9 0 0 val 0
  | .setBaudRate val => encodeEvent 0xA 0 0 val 0

/-! ## Words as numbers -/

/-- The `n` bytes of a number, most significant first: the convention of opcode_table.json, "byte 0 of a frame (or bit 63
of an event word) leftmost" (R105; log 10). -/
def bytesOfNat : Nat → Nat → List Byte
  | 0, _ => []
  | n + 1, w => BitVec.ofNat 8 (w / 256 ^ n) :: bytesOfNat n w

/-- The instruction the decoder reads from a table word of `nbits` bits, numbered as opcode_table.json numbers them: the
whole word is one number whose bit 0 is the least significant bit of the table's `match` and `mask` (R105). -/
def decodeTableWord (nbits w : Nat) : Option Instr :=
  match decode (bytesOfNat (nbits / 8) w) with
  | .ok i => some i
  | .error _ => none

/-! ## The opcode table as data -/

/-- A row of opcode_table.json: `pattern` is its `match` (R105). -/
structure OpcodeRow where
  mnemonic : String
  width : Nat
  pattern : Nat
  mask : Nat
deriving DecidableEq, Repr

/-- The 18 rows, transcribed from opcode_table.json. -/
def opcodeTable : List OpcodeRow :=
  [ ⟨"FRAME.ACC", 88, 0x5551000000000000000000, 0xFFFF000000000000000000⟩,
    ⟨"FRAME.GYRO", 88, 0x5552000000000000000000, 0xFFFF000000000000000000⟩,
    ⟨"FRAME.ANGLE", 88, 0x5553000000000000000000, 0xFFFF000000000000000000⟩,
    ⟨"FRAME.MAG", 88, 0x5554000000000000000000, 0xFFFF000000000000000000⟩,
    ⟨"FRAME.ECHO", 88, 0x555F000000000000000000, 0xFFFF000000000000000000⟩,
    ⟨"FRAME.OTHER", 88, 0x5500000000000000000000, 0xFF00000000000000000000⟩,
    ⟨"TX.UNLOCK", 40, 0xFFAA6988B5, 0xFFFFFFFFFF⟩,
    ⟨"TX.COMMAND", 40, 0xFFAA000000, 0xFFFF000000⟩,
    ⟨"INIT", 64, 0x1000000000000000, 0xF000000000000000⟩,
    ⟨"RXBYTE", 64, 0x2000000000000000, 0xF000000000000000⟩,
    ⟨"ISSUE", 64, 0x3000000000000000, 0xF000000000000000⟩,
    ⟨"DRIVE", 64, 0x4000000000000000, 0xF000000000000000⟩,
    ⟨"CHECKWATCHDOG", 64, 0x5000000000000000, 0xF000000000000000⟩,
    ⟨"SAVE", 64, 0x6000000000000000, 0xF000000000000000⟩,
    ⟨"CALIBRATE", 64, 0x7000000000000000, 0xF000000000000000⟩,
    ⟨"SETOUTPUTCONTENT", 64, 0x8000000000000000, 0xF000000000000000⟩,
    ⟨"SETOUTPUTRATE", 64, 0x9000000000000000, 0xF000000000000000⟩,
    ⟨"SETBAUDRATE", 64, 0xA000000000000000, 0xF000000000000000⟩ ]

/-- How many bits of a row's mask are set. -/
def OpcodeRow.maskBits (r : OpcodeRow) : Nat := (List.range r.width).countP fun k => r.mask.testBit k

/-- "A word `w` selects the row iff `w & mask = match`" (R105). -/
def OpcodeRow.selects (r : OpcodeRow) (nbits w : Nat) : Bool := r.width == nbits && w &&& r.mask == r.pattern

/-- Of two rows that match, the one with more mask bits set (R105). -/
def OpcodeRow.longer (best : Option OpcodeRow) (r : OpcodeRow) : Option OpcodeRow :=
  match best with
  | none => some r
  | some q => if q.maskBits < r.maskBits then some r else some q

/-- The row R105 selects for a word: of the rows that match, the one with the most mask bits set. -/
def selectRow (nbits w : Nat) : Option OpcodeRow :=
  (opcodeTable.filter fun r => r.selects nbits w).foldl OpcodeRow.longer none

end Sys2Proof
end

