-- ==== Sys2Proof/Machine/State.lean ====
section
/-! DEFINITION. The state of the block (10_state.md R20), grouped as DOC0's four data types group it, and what surrounds it:
the output trace, the tick input and the stimulus script. Plain data. -/

namespace Sys2Proof.Machine

/-! ## The spec's registers -/

/-- ReceiveBuffer: the in-progress inbound frame (10_state.md R23 to R25). -/
structure ReceiveBuffer where
  /-- `rx_last`: the most recently received raw byte (R23). -/
  last : Byte
  /-- `rx_buf[0..10]` (R24). -/
  buf : Vector Byte Config.RX_LEN
  /-- `rx_cursor`, 4 bits: how many bytes of the current frame are in `buf` (R25). -/
  cursor : BitVec 4
deriving DecidableEq, Repr

/-- Three signed 16-bit registers, index 0, 1, 2 for the x, y, z axis (10_state.md R21, D5). A register holds the bit
pattern; its signed value is `toInt`. -/
structure Axes where
  x : Half
  y : Half
  z : Half
deriving DecidableEq, Repr

/-- SensorState: the registers consumers may read (10_state.md R27 to R37). -/
structure SensorState where
  /-- `acc_raw[0..2]` (R28). -/
  accRaw : Axes
  /-- `gyro_raw[0..2]` (R29). -/
  gyroRaw : Axes
  /-- `angle_raw[0..2]` (R30). -/
  angleRaw : Axes
  /-- `mag_raw[0..2]` (R31). -/
  magRaw : Axes
  /-- `temp_raw`, signed (R32). -/
  tempRaw : Half
  /-- `volt_raw`, signed (R33). -/
  voltRaw : Half
  /-- `version`, signed (R34, D6). -/
  version : Half
  /-- `last_frame_ts` (R35). -/
  lastFrameTs : Tick
  /-- `angle_period` (R36). -/
  anglePeriod : Tick
  /-- `echo[0..10]` (R37). -/
  echo : Vector Byte Config.RX_LEN
deriving DecidableEq, Repr

/-- The four values of `tx_progress` (10_state.md R45, C1). -/
inductive TxProgress where
  /-- 0: no command in flight. -/
  | idle
  /-- 1: a command frame is stored, nothing transmitted yet. -/
  | unlockPending
  /-- 2: the unlock frame was transmitted at `tx_ts`. -/
  | unlockSent
  /-- 3: the command frame was transmitted at `tx_ts`. -/
  | commandSent
deriving DecidableEq, Repr

/-- OutgoingCommand (10_state.md R44 to R46). -/
structure OutgoingCommand where
  /-- `cmd_frame[0..4]`: the stored command frame (R44, C10). -/
  frame : Vector Byte Config.TX_LEN
  /-- `tx_progress` (R45). -/
  progress : TxProgress
  /-- `tx_ts`: the send timestamp (R46, D9). -/
  ts : Tick
deriving DecidableEq, Repr

/-! ## Outputs -/

/-- The status of `ISSUE` and its wrappers (42_command_transmitter.md R182). -/
inductive Status where
  | ok
  | busy
deriving DecidableEq, Repr

/-- An output action (00_scope.md R10; log 4). -/
inductive Action where
  /-- `rx_arm`: a request to the transport to arm reception of exactly one byte. -/
  | rxArm
  /-- `tx(b0 b1 b2 b3 b4)`: five bytes handed to the transport's `send`, byte 0 first (R10, R65). -/
  | tx (frame : Vector Byte Config.TX_LEN)
  /-- The status an `ISSUE` or a wrapper returned. -/
  | status (st : Status)
deriving DecidableEq, Repr

/-! ## The state -/

/-- The registers of 10_state.md R20, and the model's own fields. -/
structure State where
  /-- `cfg_tag` (R26). -/
  cfgTag : Tag
  /-- ReceiveBuffer (R23 to R25). -/
  rx : ReceiveBuffer
  /-- SensorState (R27 to R37). -/
  sensor : SensorState
  /-- `angle_ts`, hidden (R38). -/
  angleTs : Tick
  /-- OutgoingCommand (R44 to R46). -/
  tx : OutgoingCommand
  /-- `wd_restart_ts`, hidden (R48). -/
  wdRestartTs : Tick
  /-- The model's own: an INIT has been applied (R293; log 3). -/
  initialised : Bool
  /-- The model's own: the output trace, oldest action first (R10; log 4). No rule reads it. -/
  trace : List Action
  /-- The model's own: the tick input as last sampled (R266, R270; log 5). -/
  tickIn : Tick
  /-- The model's own: the words of the stimulus script still to be applied, next one first (R100; log 1). -/
  script : List (List Byte)
deriving DecidableEq, Repr

/-! ## Stops -/

/-- There is no fault: "the block never raises, traps, halts or enters an error state" (60_exceptions.md R250). The type
has no constructor, so no step can answer one; the absence is the spec's, not a convenience of the model. -/
inductive Fault where
deriving DecidableEq, Repr

/-- Why a step is refused. -/
inductive Refusal where
  /-- Raised by an arm of `exec` whose instruction has no meaning yet. Safe. No arm raises it. -/
  | notModelled (mnemonic : String)
  /-- Raised by every instruction but INIT while no INIT has been applied: "a model must not give any operation a meaning
  before INIT" (70_reset_and_hazards.md R293, U10). Safe: the spec asks for it. -/
  | beforeInit
  /-- Raised by `step` on a script word that is no word of the table: "a script decoder must refuse such a word by name"
  (30_encoding.md R102, U7; log 23). Safe: nothing is applied to the block. -/
  | undecodable (e : DecodeError)
deriving DecidableEq, Repr

/-! ## Reset -/

/-- ReceiveBuffer after INIT: "buffer empty" (70_reset_and_hazards.md R291). -/
def ReceiveBuffer.reset : ReceiveBuffer :=
  { last := 0, buf := Vector.replicate Config.RX_LEN 0, cursor := 0 }

/-- SensorState after INIT: "zeroed/default values" (R291). -/
def SensorState.reset : SensorState :=
  { accRaw := ⟨0, 0, 0⟩, gyroRaw := ⟨0, 0, 0⟩, angleRaw := ⟨0, 0, 0⟩, magRaw := ⟨0, 0, 0⟩,
    tempRaw := 0, voltRaw := 0, version := 0, lastFrameTs := 0, anglePeriod := 0,
    echo := Vector.replicate Config.RX_LEN 0 }

/-- OutgoingCommand after INIT: `Idle`, all bytes 0 (R291). -/
def OutgoingCommand.reset : OutgoingCommand :=
  { frame := Vector.replicate Config.TX_LEN 0, progress := .idle, ts := 0 }

/-- The machine right after reset: the state just after `INIT 0` (95_test_vectors.md, "Start: reset"; R291). The tag 0 and
the tick input 0 are the model's choice (logs 2 and 5). -/
def State.reset : State :=
  { cfgTag := 0
    rx := .reset
    sensor := .reset
    angleTs := 0
    tx := .reset
    wdRestartTs := 0
    initialised := true
    trace := [.rxArm]
    tickIn := 0
    script := [] }

end Sys2Proof.Machine
end

