-- ==== Sys2Proof/Machine/Operands.lean ====
section
/-! DEFINITION. Operand forms: the arithmetic helpers of 00_scope.md R14, the fields of a frame (30_encoding.md R91,
41_frame_decode.md R150), the five bytes of an outbound frame (R95), and the codes of `tx_progress` and of the status. -/

namespace Sys2Proof.Machine

/-- `u8(v) = v mod 256` (R14). -/
def u8 (v : Nat) : Byte := BitVec.ofNat 8 v

/-- `sum8(buf)`: "the 8-bit truncating sum of the first 10 bytes" (R14). -/
def sum8 (buf : Vector Byte Config.RX_LEN) : Byte :=
  u8 ((buf.toList.take Config.SUM_LEN).map BitVec.toNat).sum

/-- `pair(lo, hi) = (hi << 8) | lo`, a 16-bit value (R14). -/
def pair (lo hi : Byte) : Half := (hi.setWidth 16 <<< 8) ||| lo.setWidth 16

/-- `s16(v)`: the signed value of a 16-bit pattern (R14). -/
def s16 (v : Half) : Int := if v.toNat ≤ 32767 then v.toNat else (v.toNat : Int) - 65536

/-- `elapsed(now, t) = (now - t) mod 2^TICK_W` (R14, D2). -/
def elapsed (now t : Tick) : Tick := now - t

/-- The eleven bytes of a frame of type `type` with payload `d` and checksum byte `cs` (R90). -/
def frameBuffer (type : Byte) (d : Payload) (cs : Byte) : Vector Byte Config.RX_LEN :=
  #v[Config.SYNC, type, d.d0, d.d1, d.d2, d.d3, d.d4, d.d5, d.d6, d.d7, cs]

/-- `f0`: payload pair 0, the x axis (R91, R150, D5). The pattern of `s16(pair(buf[2], buf[3]))`. -/
def field0 (buf : Vector Byte Config.RX_LEN) : Half := pair buf[2] buf[3]

/-- `f1`: payload pair 1, the y axis (R91, R150, D5). -/
def field1 (buf : Vector Byte Config.RX_LEN) : Half := pair buf[4] buf[5]

/-- `f2`: payload pair 2, the z axis (R91, R150, D5). -/
def field2 (buf : Vector Byte Config.RX_LEN) : Half := pair buf[6] buf[7]

/-- `f3`: payload pair 3, the auxiliary quantity (R91, R150, D5). -/
def field3 (buf : Vector Byte Config.RX_LEN) : Half := pair buf[8] buf[9]

/-- The three axis fields of a frame (R91). -/
def axesOf (buf : Vector Byte Config.RX_LEN) : Axes := ⟨field0 buf, field1 buf, field2 buf⟩

/-- The low byte of a 16-bit operand: `val[7:0]` (R97). -/
def valLow (val : Half) : Byte := val.extractLsb' 0 8

/-- The high byte of a 16-bit operand: `val[15:8]` (R97). -/
def valHigh (val : Half) : Byte := val.extractLsb' 8 8

/-- A command frame: `[0xFF, 0xAA, register, value_low, value_high]` (R95, R181). -/
def commandFrame (reg : Byte) (val : Half) : Vector Byte Config.TX_LEN :=
  #v[Config.HDR0, Config.HDR1, reg, valLow val, valHigh val]

/-- The "target register identifier" of the stored command: `cmd_frame[2]` (10_state.md R44, C10). -/
def OutgoingCommand.register (c : OutgoingCommand) : Byte := c.frame[2]

/-- The "16-bit command value" of the stored command: `pair(cmd_frame[3], cmd_frame[4])` (10_state.md R44, C10). -/
def OutgoingCommand.value (c : OutgoingCommand) : Half := pair c.frame[3] c.frame[4]

/-- The 2-bit value of `tx_progress` (10_state.md R45, D8). -/
def TxProgress.code : TxProgress → BitVec 2
  | .idle => 0
  | .unlockPending => 1
  | .unlockSent => 2
  | .commandSent => 3

/-- The numeric value of the status: `Ok` = 0, `Busy` = 1 (R182, D21). -/
def Status.code : Status → BitVec 1
  | .ok => 0
  | .busy => 1

end Sys2Proof.Machine
end

