-- ==== Sys2Proof/Machine/Flags.lean ====
section
/-! DEFINITION. Status conditions. The block has no flag register (10_state.md R50): every condition is a function of the
state, and of `now` where time is asked about. -/

namespace Sys2Proof.Machine

/-- The receiver's three named states (10_state.md R25). -/
inductive ReceiverState where
  | awaitingSync
  | accumulating
  | frameReady
deriving DecidableEq, Repr

/-- The receiver's state as a function of `rx_cursor`: below `RX_LEN` the frame is under way, at `RX_LEN` it is ready, and
the values above "are never taken" and name no state (R25, R7). -/
def ReceiveBuffer.state (rx : ReceiveBuffer) : Option ReceiverState :=
  if rx.cursor = 0 then some .awaitingSync
  else if rx.cursor.toNat < Config.RX_LEN then some .accumulating
  else if rx.cursor.toNat = Config.RX_LEN then some .frameReady
  else none

/-- `busy = (tx_progress != 0)`: a command is in flight (R50, R47). -/
def busy (s : State) : Bool := s.tx.progress != .idle

/-- The receiver is `AwaitingSync`: `rx_cursor = 0` (R25, R50). -/
def awaitingSync (s : State) : Bool := s.rx.cursor == 0

/-- `FrameReady`: `RX_LEN` bytes have been collected (R25, 40_frame_receiver.md R124). -/
def frameComplete (s : State) : Bool := s.rx.cursor.toNat == Config.RX_LEN

/-- `stale(now) = (elapsed(now, last_frame_ts) > 100)`, strict (R50, R231, D3). -/
def stale (now : Tick) (s : State) : Bool := Config.T_STALE < elapsed now s.sensor.lastFrameTs

/-- The rate limit lets a restart through: `elapsed(now, wd_restart_ts) >= 100`, inclusive (R232). -/
def restartDue (now : Tick) (s : State) : Bool := Config.T_RESTART ≤ elapsed now s.wdRestartTs

/-- A transmit window has elapsed: `elapsed(now, tx_ts) >= 10`, inclusive (R187, R188). -/
def gapElapsed (now : Tick) (s : State) : Bool := Config.T_GAP ≤ elapsed now s.tx.ts

/-- A frame is valid iff the sum of its first `SUM_LEN` bytes is the byte after them, `sum8(buf) = buf[10]` (R93, R125). -/
def frameValid (buf : Vector Byte Config.RX_LEN) : Bool := sum8 buf == buf[Config.SUM_LEN]

/-- A register-read echo has been stored: `echo[0] != 0` (10_state.md R37, D25). -/
def SensorState.hasEcho (r : SensorState) : Bool := r.echo[0] != 0

end Sys2Proof.Machine
end

