-- ==== Sys2Proof/Machine/Ops.lean ====
section
/-! DEFINITION. The named operations over the registers, each written once and shared by the meanings. Taking an exception
and returning from one have no operation here: the block enters none (60_exceptions.md R250, R263, R264). -/

namespace Sys2Proof.Machine

/-- What every meaning answers. -/
abbrev Result := Host.Outcome State Fault Refusal

/-! ## Output, time, and the phase before INIT -/

/-- `emit a`: append an output action to the trace (00_scope.md R10, R13). -/
def State.emit (s : State) (a : Action) : State := { s with trace := s.trace ++ [a] }

/-- The tick input is sampled when an event that carries `now` is taken (00_scope.md R8, 60_exceptions.md R266; log 5). -/
def State.sampleTick (s : State) (now? : Option Tick) : State := { s with tickIn := now?.getD s.tickIn }

/-- An operation other than INIT: refused while no INIT has been applied (70_reset_and_hazards.md R293), else it goes on to
the state `t`. -/
def afterInit (s t : State) : Result := if s.initialised then .next t else .refused .beforeInit

/-! ## INIT -/

/-- `INIT(tag)`: `cfg_tag <- tag`, every other register to its reset value, one `rx_arm` (R290 to R292). The output trace
goes on, and the tick input and the script belong to the environment. -/
def initialise (tag : Tag) (s : State) : State :=
  State.emit
    { cfgTag := tag
      rx := .reset
      sensor := .reset
      angleTs := 0
      tx := .reset
      wdRestartTs := 0
      initialised := true
      trace := s.trace
      tickIn := s.tickIn
      script := s.script }
    .rxArm

/-! ## The frame receiver -/

/-- `rx_last <- b` (10_state.md R23). -/
def State.setRxLast (s : State) (b : Byte) : State := { s with rx := { s.rx with last := b } }

/-- `rx_buf[rx_cursor] <- b ; rx_cursor <- rx_cursor + 1` (40_frame_receiver.md R123). At a cursor of `RX_LEN` or more, which no
reachable state has (R25, R52 I1), the write has no byte to go to (log 14). -/
def State.pushByte (s : State) (b : Byte) : State :=
  { s with rx := { s.rx with buf := s.rx.buf.setIfInBounds s.rx.cursor.toNat b, cursor := s.rx.cursor + 1 } }

/-- `rx_cursor <- 0`: "reset to empty" leaves the bytes (10_state.md R24, D19). -/
def State.clearCursor (s : State) : State := { s with rx := { s.rx with cursor := 0 } }

/-- `last_frame_ts <- now` (40_frame_receiver.md R127). -/
def State.stampLink (s : State) (now : Tick) : State := { s with sensor := { s.sensor with lastFrameTs := now } }

/-- Validation and what follows it (R125 to R127, R129): a valid frame runs the decode of its type and then stamps the link;
an invalid one is silently dropped. -/
def acceptFrame (buf : Vector Byte Config.RX_LEN) (now : Tick) (decodeArm : State → State) (s : State) : State :=
  if frameValid buf then (decodeArm s).stampLink now else s

/-! ## The decode arms of the sensor-frame multiplexer -/

/-- `FRAME.ACC(buf)` (41_frame_decode.md R152). -/
def decodeAcc (buf : Vector Byte Config.RX_LEN) (s : State) : State :=
  { s with sensor := { s.sensor with accRaw := axesOf buf, tempRaw := field3 buf } }

/-- `FRAME.GYRO(buf)` (R153). -/
def decodeGyro (buf : Vector Byte Config.RX_LEN) (s : State) : State :=
  { s with sensor := { s.sensor with gyroRaw := axesOf buf, voltRaw := field3 buf } }

/-- `FRAME.ANGLE(buf, now)` (R154): the period is measured from `angle_ts`, which then takes `now`. -/
def decodeAngle (buf : Vector Byte Config.RX_LEN) (now : Tick) (s : State) : State :=
  { s with
    sensor :=
      { s.sensor with angleRaw := axesOf buf, version := field3 buf, anglePeriod := elapsed now s.angleTs }
    angleTs := now }

/-- `FRAME.MAG(buf)` (R155): `temp_raw` is the register FRAME.ACC writes (D27). -/
def decodeMag (buf : Vector Byte Config.RX_LEN) (s : State) : State :=
  { s with sensor := { s.sensor with magRaw := axesOf buf, tempRaw := field3 buf } }

/-- `FRAME.ECHO(buf)` (R156): all eleven bytes, verbatim. -/
def decodeEcho (buf : Vector Byte Config.RX_LEN) (s : State) : State :=
  { s with sensor := { s.sensor with echo := buf } }

/-- `FRAME.OTHER` (R157): no field update. -/
def decodeOther (s : State) : State := s

/-- `DECODE(buf, now)`: the arm of the type code `buf[1]`, compared whole; exactly one arm runs (R151). -/
def decodeByType (buf : Vector Byte Config.RX_LEN) (now : Tick) (s : State) : State :=
  if buf[1] = Config.TYPE_ACC then decodeAcc buf s
  else if buf[1] = Config.TYPE_GYRO then decodeGyro buf s
  else if buf[1] = Config.TYPE_ANGLE then decodeAngle buf now s
  else if buf[1] = Config.TYPE_MAG then decodeMag buf s
  else if buf[1] = Config.TYPE_ECHO then decodeEcho buf s
  else decodeOther s

/-- The eleventh byte has arrived (R124): first `rx_cursor <- 0`, then validation and decode of the buffer, which the reset
of the cursor has not disturbed. -/
def frameReady (now : Tick) (s : State) : State :=
  acceptFrame s.rx.buf now (decodeByType s.rx.buf now) s.clearCursor

/-- Append the byte; on reaching `RX_LEN` bytes the frame is ready (R123, R124). -/
def receiveByte (b : Byte) (now : Tick) (s : State) : State :=
  let t := s.pushByte b
  if frameComplete t then frameReady now t else t

/-! ## The command transmitter -/

/-- Store an accepted command: the frame and `tx_progress <- 1` (42_command_transmitter.md R181). -/
def State.storeCommand (s : State) (reg : Byte) (val : Half) : State :=
  { s with tx := { s.tx with frame := commandFrame reg val, progress := .unlockPending } }

/-- `ISSUE(reg, val)`: refused with `Busy` while a command is in flight, else stored (R180 to R182). -/
def issueCommand (reg : Byte) (val : Half) (s : State) : State :=
  if busy s then s.emit (.status .busy) else (s.storeCommand reg val).emit (.status .ok)

/-- Transmit the unlock frame: `tx(FF AA 69 88 B5) ; tx_ts <- now ; tx_progress <- 2` (R186, R191). -/
def sendUnlock (now : Tick) (s : State) : State :=
  State.emit { s with tx := { s.tx with ts := now, progress := .unlockSent } } (.tx Config.UNLOCK)

/-- Transmit the stored command frame, taken whole at this instant: `tx(cmd_frame) ; tx_ts <- now ; tx_progress <- 3` (R187,
R192, D16). -/
def sendCommand (now : Tick) (s : State) : State :=
  State.emit { s with tx := { s.tx with ts := now, progress := .commandSent } } (.tx s.tx.frame)

/-- The command is complete: `tx_progress <- 0` and nothing else (R188, D19). -/
def finishCommand (s : State) : State := { s with tx := { s.tx with progress := .idle } }

/-! ## The watchdog -/

/-- The restart action: `rx_cursor <- 0`, one `rx_arm`, `wd_restart_ts <- now` (44_watchdog.md R233). -/
def restartReception (now : Tick) (s : State) : State :=
  State.emit { s.clearCursor with wdRestartTs := now } .rxArm

end Sys2Proof.Machine
end

