-- ==== Sys2Proof/Machine/Catalog.lean ====
section
/-! DEFINITION. The command catalog: the five wrappers over ISSUE (43_command_catalog.md R210 to R215). Each is exactly one
ISSUE with its register parameter and adds no check (R215, D35). -/

namespace Sys2Proof.Machine

/-- SAVE: `ISSUE(REG_SAVE, val)` (R210). -/
def execSave (val : Half) (s : State) : Result := afterInit s (issueCommand Config.REG_SAVE val s)

/-- CALIBRATE: `ISSUE(REG_CALIBRATE, val)` (R211). -/
def execCalibrate (val : Half) (s : State) : Result := afterInit s (issueCommand Config.REG_CALIBRATE val s)

/-- SETOUTPUTCONTENT: `ISSUE(REG_OUTPUT_CONTENT, mask)`, any mask (R212). -/
def execSetOutputContent (mask : Half) (s : State) : Result :=
  afterInit s (issueCommand Config.REG_OUTPUT_CONTENT mask s)

/-- SETOUTPUTRATE: `ISSUE(REG_OUTPUT_RATE, val)` (R213). -/
def execSetOutputRate (val : Half) (s : State) : Result := afterInit s (issueCommand Config.REG_OUTPUT_RATE val s)

/-- SETBAUDRATE: `ISSUE(REG_BAUD_RATE, val)`; nothing changes in the transport (R214). -/
def execSetBaudRate (val : Half) (s : State) : Result := afterInit s (issueCommand Config.REG_BAUD_RATE val s)

/-- The output-content mask with one bit per listed category (30_encoding.md R97, R212): what a caller hands to
SETOUTPUTCONTENT. No operation of the block consults it (R160). -/
def contentMask : List Config.Category → Half
  | [] => 0
  | c :: cs => BitVec.twoPow 16 (Config.CONTENT_BIT c).val ||| contentMask cs

/-- The value is one of the catalog's for the register (R49); the caller's business, never tested by the block (R215). -/
def legalValue (reg : Byte) (val : Half) : Bool := (Config.LEGAL_VALUES reg).contains val

end Sys2Proof.Machine
end

