-- ==== Sys2Proof/Machine/Frames.lean ====
section
/-! DEFINITION. The inbound frame types, FRAME.ACC to FRAME.OTHER (41_frame_decode.md R152 to R157).
A frame row is the decode "of a valid inbound frame of that type, which happens inside an RXBYTE event" (10_state.md
section 1), with that event's validation (R125) and link timestamp (R127). RXBYTE runs it on the bytes it has collected;
as an instruction of its own it runs on the bytes of its word, at the tick the tick input shows (log 6). -/

namespace Sys2Proof.Machine

/-- FRAME.ACC (R152). -/
def execFrameAcc (d : Payload) (cs : Byte) (s : State) : Result :=
  let buf := frameBuffer Config.TYPE_ACC d cs
  afterInit s (acceptFrame buf s.tickIn (decodeAcc buf) s)

/-- FRAME.GYRO (R153). -/
def execFrameGyro (d : Payload) (cs : Byte) (s : State) : Result :=
  let buf := frameBuffer Config.TYPE_GYRO d cs
  afterInit s (acceptFrame buf s.tickIn (decodeGyro buf) s)

/-- FRAME.ANGLE (R154). -/
def execFrameAngle (d : Payload) (cs : Byte) (s : State) : Result :=
  let buf := frameBuffer Config.TYPE_ANGLE d cs
  afterInit s (acceptFrame buf s.tickIn (decodeAngle buf s.tickIn) s)

/-- FRAME.MAG (R155). -/
def execFrameMag (d : Payload) (cs : Byte) (s : State) : Result :=
  let buf := frameBuffer Config.TYPE_MAG d cs
  afterInit s (acceptFrame buf s.tickIn (decodeMag buf) s)

/-- FRAME.ECHO (R156). -/
def execFrameEcho (d : Payload) (cs : Byte) (s : State) : Result :=
  let buf := frameBuffer Config.TYPE_ECHO d cs
  afterInit s (acceptFrame buf s.tickIn (decodeEcho buf) s)

/-- FRAME.OTHER (R157): the type code selects nothing, but a valid frame stamps the link. -/
def execFrameOther (type : Byte) (d : Payload) (cs : Byte) (s : State) : Result :=
  let buf := frameBuffer type d cs
  afterInit s (acceptFrame buf s.tickIn decodeOther s)

end Sys2Proof.Machine
end

