-- ==== Sys2Proof/Machine/Init.lean ====
section
/-! DEFINITION. INIT (70_reset_and_hazards.md R290 to R293). -/

namespace Sys2Proof.Machine

/-- INIT (R290): allowed before and after an earlier INIT (R293, D11). -/
def execInit (tag : Tag) (s : State) : Result := .next (initialise tag s)

end Sys2Proof.Machine
end

