-- ==== Sys2Proof/Machine/Receiver.lean ====
section
/-! DEFINITION. The frame receiver: RXBYTE (40_frame_receiver.md R120 to R129). -/

namespace Sys2Proof.Machine

/-- `RXBYTE(tag, b, now)` after INIT (R120): a byte of another transport has no effect at all (R121); otherwise `rx_last`
takes the byte, the byte is discarded (R122) or received (R123, R124), and one `rx_arm` is emitted (R128). -/
def rxByte (tag : Tag) (b : Byte) (now : Tick) (s : State) : State :=
  if tag ≠ s.cfgTag then s
  else
    let t := s.setRxLast b
    if awaitingSync t ∧ b ≠ Config.SYNC then t.emit .rxArm
    else (receiveByte b now t).emit .rxArm

/-- RXBYTE (R120). -/
def execRxByte (tag : Tag) (b : Byte) (now : Tick) (s : State) : Result := afterInit s (rxByte tag b now s)

end Sys2Proof.Machine
end

