-- ==== Sys2Proof/Machine/Transmitter.lean ====
section
/-! DEFINITION. The command transmitter: ISSUE, DRIVE and the two frames it emits (42_command_transmitter.md). -/

namespace Sys2Proof.Machine

/-- ISSUE (R180): any `reg` and any `val` is accepted (R183). -/
def execIssue (reg : Byte) (val : Half) (s : State) : Result := afterInit s (issueCommand reg val s)

/-- `DRIVE(now)` after INIT (R184): one case, chosen by the `tx_progress` the event began with (R185 to R189). -/
def drive (now : Tick) (s : State) : State :=
  match s.tx.progress with
  | .idle => s
  | .unlockPending => sendUnlock now s
  | .unlockSent => if gapElapsed now s then sendCommand now s else s
  | .commandSent => if gapElapsed now s then finishCommand s else s

/-- DRIVE (R184). -/
def execDrive (now : Tick) (s : State) : Result := afterInit s (drive now s)

/-- The state emits TX.UNLOCK: "emitted only by DRIVE in UnlockPending" (R191). -/
def emitsUnlock (s : State) : Bool := s.tx.progress == .unlockPending

/-- The state emits `frame` as TX.COMMAND: "emitted only by DRIVE in UnlockSent when the window has elapsed", the bytes
being those of `cmd_frame` (R192). -/
def emitsCommand (now : Tick) (frame : Vector Byte Config.TX_LEN) (s : State) : Bool :=
  s.tx.progress == .unlockSent && gapElapsed now s && s.tx.frame == frame

/-- TX.UNLOCK (R191): the emission DRIVE performs in UnlockPending, at the tick the tick input shows; in every other state
nothing is emitted and nothing changes (log 8). -/
def execTxUnlock (s : State) : Result :=
  afterInit s (if emitsUnlock s then sendUnlock s.tickIn s else s)

/-- TX.COMMAND (R192): the emission DRIVE performs in UnlockSent with the window elapsed, at the tick the tick input shows,
where the stored frame has these five bytes; in every other state nothing is emitted and nothing changes (log 8). -/
def execTxCommand (reg valLo valHi : Byte) (s : State) : Result :=
  afterInit s
    (if emitsCommand s.tickIn #v[Config.HDR0, Config.HDR1, reg, valLo, valHi] s then sendCommand s.tickIn s else s)

end Sys2Proof.Machine
end

