-- ==== Sys2Proof/Machine/Watchdog.lean ====
section
/-! DEFINITION. The connection watchdog: CHECKWATCHDOG (44_watchdog.md R230 to R234). -/

namespace Sys2Proof.Machine

/-- `CHECKWATCHDOG(now)` after INIT (R230): restart when the link is stale (R231) and the rate limit allows (R232); else
nothing (R234). The transport armed is the configured one (R235, C7). -/
def checkWatchdog (now : Tick) (s : State) : State :=
  if stale now s && restartDue now s then restartReception now s else s

/-- CHECKWATCHDOG (R230). -/
def execCheckWatchdog (now : Tick) (s : State) : Result := afterInit s (checkWatchdog now s)

end Sys2Proof.Machine
end

