-- ==== Sys2Proof/Machine/Dispatch.lean ====
section
/-! DEFINITION. One arm per constructor of Instr. -/

namespace Sys2Proof.Machine

def exec (i : Instr) (s : State) : Host.Outcome State Fault Refusal :=
  match i with
  | .frameAcc d cs => Sys2Proof.Machine.execFrameAcc d cs s
  | .frameGyro d cs => Sys2Proof.Machine.execFrameGyro d cs s
  | .frameAngle d cs => Sys2Proof.Machine.execFrameAngle d cs s
  | .frameMag d cs => Sys2Proof.Machine.execFrameMag d cs s
  | .frameEcho d cs => Sys2Proof.Machine.execFrameEcho d cs s
  | .frameOther type d cs => Sys2Proof.Machine.execFrameOther type d cs s
  | .txUnlock => Sys2Proof.Machine.execTxUnlock s
  | .txCommand reg valLo valHi => Sys2Proof.Machine.execTxCommand reg valLo valHi s
  | .init tag => Sys2Proof.Machine.execInit tag s
  | .rxByte tag b now => Sys2Proof.Machine.execRxByte tag b now s
  | .issue reg val => Sys2Proof.Machine.execIssue reg val s
  | .drive now => Sys2Proof.Machine.execDrive now s
  | .checkWatchdog now => Sys2Proof.Machine.execCheckWatchdog now s
  | .save val => Sys2Proof.Machine.execSave val s
  | .calibrate val => Sys2Proof.Machine.execCalibrate val s
  | .setOutputContent mask => Sys2Proof.Machine.execSetOutputContent mask s
  | .setOutputRate val => Sys2Proof.Machine.execSetOutputRate val s
  | .setBaudRate val => Sys2Proof.Machine.execSetBaudRate val s

end Sys2Proof.Machine
end

