-- ==== Sys2Proof/Machine/Events.lean ====
section
/-! DEFINITION. Events in a row. An event is one atomic transition and each sees all effects of every earlier one
(00_scope.md R9, 20_memory.md R72). -/

namespace Sys2Proof.Machine

/-- Take one event: the tick input is sampled (00_scope.md R8), then the instruction has its effect. -/
def takeEvent (i : Instr) (s : State) : Result := exec i (s.sampleTick i.now?)

/-- Take the events of a list in order, stopping at the first refusal (20_memory.md R72). -/
def takeEvents : List Instr → State → Result
  | [], s => .next s
  | i :: is, s =>
    match takeEvent i s with
    | .next t => takeEvents is t
    | .fault r => .fault r
    | .refused r => .refused r

/-- The words of a list of instructions: a stimulus script (30_encoding.md R100). -/
def scriptOf (is : List Instr) : List (List Byte) := is.map encode

/-- Take the next word of the script off (log 1). -/
def State.popScript (s : State) : State := { s with script := s.script.tail }

/-- Put a word at the front of the script, where `step` fetches (log 1). -/
def State.pushScript (s : State) (word : List Byte) : State := { s with script := word :: s.script }

end Sys2Proof.Machine
end

