-- ==== Sys2Proof/Machine/Step.lean ====
section
/-! DEFINITION. One step: the next word of the stimulus script is taken off, decoded and applied as one event
(30_encoding.md R100 to R102; log 1). With no word left no event is taken and the state stays (00_scope.md R15, D31). -/

namespace Sys2Proof.Machine

/-- One step of the machine. -/
def step (s : State) : Host.Outcome State Fault Refusal :=
  match s.script with
  | [] => .next s
  | word :: _ =>
    match decode word with
    | .ok i => takeEvent i s.popScript
    | .error e => .refused (.undecodable e)

/-- The state with the table word `w` of `nbits` bits next in its script (R105; logs 1 and 10). -/
def State.withFetchWord (s : State) (nbits w : Nat) : State := s.pushScript (bytesOfNat (nbits / 8) w)

end Sys2Proof.Machine
end

