-- ==== Sys2Proof/Machine/Errors.lean ====
section
/-! DEFINITION. The six error classes (60_exceptions.md R250 to R256): which class an event falls into in a state. No class
saves state, changes a mode or transfers control (R263); their effects are the meanings' own. No meaning reads this file. -/

namespace Sys2Proof.Machine

/-- E1 to E6, in DOC0's order (R250, D30). -/
inductive ErrorClass where
  /-- E1: transport mismatch (R251). -/
  | transportMismatch
  /-- E2: framing error, a byte other than 0x55 while `AwaitingSync` (R252, C2). -/
  | framingError
  /-- E3: checksum failure (R253). -/
  | checksumFailure
  /-- E4: unrecognised frame type (R254). -/
  | unrecognisedType
  /-- E5: busy (R255). -/
  | busy
  /-- E6: link staleness (R256). -/
  | linkStaleness
deriving DecidableEq, Repr

/-- Only E5 is reported, as the returned status (R250). -/
def ErrorClass.reported : ErrorClass → Bool
  | .transportMismatch => false
  | .framingError => false
  | .checksumFailure => false
  | .unrecognisedType => false
  | .busy => true
  | .linkStaleness => false

/-- E3 or E4 of a completed frame: the type is examined only after the checksum has matched (R262 (ii)). -/
def frameError (buf : Vector Byte Config.RX_LEN) : Option ErrorClass :=
  if !frameValid buf then some .checksumFailure
  else if !recognisedType buf[1] then some .unrecognisedType
  else none

/-- The class of an RXBYTE: the tag test comes first (R262 (i)); E3 and E4 only on the eleventh byte (R250). -/
def byteError (tag : Tag) (b : Byte) (s : State) : Option ErrorClass :=
  if tag ≠ s.cfgTag then some .transportMismatch
  else if awaitingSync s ∧ b ≠ Config.SYNC then some .framingError
  else if frameComplete (s.pushByte b) then frameError (s.pushByte b).rx.buf
  else none

/-- The class of an ISSUE or a wrapper (R255). -/
def issueError (s : State) : Option ErrorClass := if Sys2Proof.Machine.busy s then some .busy else none

/-- The error class an event falls into, if any (R250). -/
def errorClass (i : Instr) (s : State) : Option ErrorClass :=
  match i with
  | .frameAcc d cs => frameError (frameBuffer Config.TYPE_ACC d cs)
  | .frameGyro d cs => frameError (frameBuffer Config.TYPE_GYRO d cs)
  | .frameAngle d cs => frameError (frameBuffer Config.TYPE_ANGLE d cs)
  | .frameMag d cs => frameError (frameBuffer Config.TYPE_MAG d cs)
  | .frameEcho d cs => frameError (frameBuffer Config.TYPE_ECHO d cs)
  | .frameOther type d cs => frameError (frameBuffer type d cs)
  | .txUnlock => none
  | .txCommand _ _ _ => none
  | .init _ => none
  | .rxByte tag b _ => byteError tag b s
  | .issue _ _ => issueError s
  | .drive _ => none
  | .checkWatchdog now => if stale now s then some .linkStaleness else none
  | .save _ => issueError s
  | .calibrate _ => issueError s
  | .setOutputContent _ => issueError s
  | .setOutputRate _ => issueError s
  | .setBaudRate _ => issueError s

end Sys2Proof.Machine
end

