-- ==== Sys2Proof/Machine/Ports.lean ====
section
/-! DEFINITION. The port-level rendering of 60_exceptions.md R270: strobes with operand wires in, pulses out. "No rule depends
on it"; no meaning reads this file. Simultaneous strobes are serialised in either order (R262, D15; log 16). -/

namespace Sys2Proof.Machine

/-- The input ports at one instant (R270). -/
structure PortsIn where
  tick : Tick
  initStb : Bool
  initTag : Tag
  rxStb : Bool
  rxTag : Tag
  rxData : Byte
  issueStb : Bool
  issueReg : Byte
  issueVal : Half
  driveStb : Bool
  wdStb : Bool
deriving DecidableEq, Repr

/-- The event of a strobe, if it is asserted. -/
def strobed (stb : Bool) (i : Instr) : List Instr := if stb then [i] else []

/-- The events of the asserted strobes, each with the tick shown when the strobe is taken (R270). -/
def PortsIn.events (p : PortsIn) : List Instr :=
  strobed p.initStb (.init p.initTag) ++ strobed p.rxStb (.rxByte p.rxTag p.rxData p.tick)
    ++ strobed p.issueStb (.issue p.issueReg p.issueVal) ++ strobed p.driveStb (.drive p.tick)
    ++ strobed p.wdStb (.checkWatchdog p.tick)

/-- An admitted serialisation of the strobes of one instant: any order (R262). -/
def PortsIn.admits (p : PortsIn) (is : List Instr) : Bool := is.isPerm p.events

/-- The output ports after one event (R270): a port without a pulse shows `none`. -/
structure PortsOut where
  /-- `rx_arm`: pulse, one per action. -/
  rxArm : Bool
  /-- `tx_stb` with `tx_data`, byte 0 in bits [39:32]. -/
  txData : Option (BitVec 40)
  /-- `issue_busy`: the status of the ISSUE taken. -/
  issueBusy : Option (BitVec 1)
deriving DecidableEq, Repr

/-- Five bytes as the 40-bit number of R95: byte 0 in bits [39:32]. -/
def txWord (f : Vector Byte Config.TX_LEN) : BitVec 40 := f[0] ++ f[1] ++ f[2] ++ f[3] ++ f[4]

/-- The pulse one output action makes on the ports. -/
def PortsOut.pulse (p : PortsOut) : Action → PortsOut
  | .rxArm => { p with rxArm := true }
  | .tx f => { p with txData := some (txWord f) }
  | .status st => { p with issueBusy := some st.code }

/-- The output ports of the event that led from `s` to `t`: the actions it appended to the trace. -/
def portsOut (s t : State) : PortsOut :=
  (t.trace.drop s.trace.length).foldl PortsOut.pulse { rxArm := false, txData := none, issueBusy := none }

end Sys2Proof.Machine
end

