-- ==== Sys2Proof/Machine/Script.lean ====
section
/-! DEFINITION. The textual script syntax and its pseudo-operations (30_encoding.md R103, R104). It is a test-bench convention
(R100, D20): no meaning reads this file. A text is a list of characters. -/

namespace Sys2Proof.Machine

/-! ## Lines and their expansion -/

/-- One line of a script, parsed. -/
inductive ScriptLine where
  /-- An event with all its operands written out. -/
  | event (i : Instr)
  /-- `RXBYTE b @now`: "tag defaults to cfg_tag" (R103). -/
  | rxByteHere (b : Byte) (now : Tick)
  /-- `RXFRAME` and `RXBYTES`: bytes from tick `t0` on, `dt` ticks apart (R104). -/
  | rxBytes (bytes : List Byte) (t0 dt : Tick)
deriving DecidableEq, Repr

/-- `RXBYTE b_i @(t0 + i*dt)` for the bytes in order, tick values mod `2^TICK_W` (R104). -/
def expandBytes (tag : Tag) : List Byte → Tick → Tick → List Instr
  | [], _, _ => []
  | b :: bs, t, dt => .rxByte tag b t :: expandBytes tag bs (t + dt) dt

/-- The events of a line, `tag` being the configured tag where the line stands. -/
def ScriptLine.expand (tag : Tag) : ScriptLine → List Instr
  | .event i => [i]
  | .rxByteHere b now => [.rxByte tag b now]
  | .rxBytes bytes t0 dt => expandBytes tag bytes t0 dt

/-- The configured tag after a line: an INIT sets it (R26). -/
def ScriptLine.tagAfter (tag : Tag) : ScriptLine → Tag
  | .event (.init t) => t
  | _ => tag

/-- The events of a script, its default tags taken from the INIT in force. -/
def expandScript : Tag → List ScriptLine → List Instr
  | _, [] => []
  | tag, l :: ls => l.expand tag ++ expandScript (l.tagAfter tag) ls

/-- `RXFRAME` of the eleven bytes of a frame (R104). -/
def rxFrame (tag : Tag) (buf : Vector Byte Config.RX_LEN) (t0 dt : Tick) : List Instr :=
  expandBytes tag buf.toList t0 dt

/-! ## Numbers and words -/

/-- The digits of a `0x` number, each at the index of its value, as the spec writes them. -/
def digitsUpper : List Char := "0123456789ABCDEF".toList

/-- The same digits in lower case (log 21). -/
def digitsLower : List Char := "0123456789abcdef".toList

/-- The value of a digit in a base: its index among the base's digits (R103; log 21). -/
def digitValue (base : Nat) (c : Char) : Option Nat :=
  match (digitsUpper.take base).idxOf? c with
  | some v => some v
  | none => (digitsLower.take base).idxOf? c

/-- Digits in a base, most significant first, after the value `acc`. -/
def digitsFrom (base acc : Nat) : List Char → Option Nat
  | [] => some acc
  | c :: cs =>
    match digitValue base c with
    | some d => digitsFrom base (base * acc + d) cs
    | none => none

/-- "Numbers are decimal or `0x` hexadecimal" (R103). -/
def parseNumber : List Char → Option Nat
  | [] => none
  | '0' :: 'x' :: c :: cs => digitsFrom 16 0 (c :: cs)
  | c :: cs => digitsFrom 10 0 (c :: cs)

/-- A number that fits in `w` bits. -/
def fits (w n : Nat) : Option (BitVec w) := if n < 2 ^ w then some (BitVec.ofNat w n) else none

/-- One word of a line. -/
inductive Token where
  | name (cs : List Char)
  | num (n : Nat)
  /-- `@n`: "`@` introduces the tick value" (R103). -/
  | tick (n : Nat)
  /-- `+n`: the tick distance of RXFRAME and RXBYTES (R104). -/
  | delta (n : Nat)
  /-- `tag=n`: an explicit tag (R103). -/
  | tag (n : Nat)
  | bad (cs : List Char)
deriving DecidableEq, Repr

/-- A token from a parsed number, or the word itself as a bad one. -/
def tokenOf (word : List Char) (make : Nat → Token) (digits : List Char) : Token :=
  match parseNumber digits with
  | some n => make n
  | none => .bad word

/-- The token of a word. -/
def classify : List Char → Token
  | '@' :: cs => tokenOf ('@' :: cs) .tick cs
  | '+' :: cs => tokenOf ('+' :: cs) .delta cs
  | 't' :: 'a' :: 'g' :: '=' :: cs => tokenOf ('t' :: 'a' :: 'g' :: '=' :: cs) .tag cs
  | cs =>
    match parseNumber cs with
    | some n => .num n
    | none => .name cs

/-- Spaces, tabs, carriage returns and commas part words. -/
def isSeparator (c : Char) : Bool := c == ' ' || c == '\t' || c == '\r' || c == ','

/-- A finished word, if it has any character. -/
def finishWord (word : List Char) : List (List Char) := if word.isEmpty then [] else [word]

/-- The words of a line, `word` being the one under way. -/
def wordsFrom (word : List Char) : List Char → List (List Char)
  | [] => finishWord word
  | c :: cs => if isSeparator c then finishWord word ++ wordsFrom [] cs else wordsFrom (word ++ [c]) cs

/-- The tokens of a line; "`;` starts a comment" (R103). -/
def tokens (line : List Char) : List Token := (wordsFrom [] (line.takeWhile (· != ';'))).map classify

/-! ## Operations -/

/-- The byte operands of RXFRAME and RXBYTES with their tick and distance; `+dt` defaults to `+0` (R104). -/
def parseBytes (bytes : List Byte) : List Token → Option ScriptLine
  | .num n :: rest =>
    match fits 8 n with
    | some b => parseBytes (bytes ++ [b]) rest
    | none => none
  | [.tick t] => (fits Config.TICK_W t).map fun t => .rxBytes bytes t 0
  | [.tick t, .delta d] =>
    match fits Config.TICK_W t, fits Config.TICK_W d with
    | some t, some d => some (.rxBytes bytes t d)
    | _, _ => none
  | _ => none

/-- A line with exactly eleven bytes (R104, RXFRAME). -/
def elevenBytes : Option ScriptLine → Option ScriptLine
  | some (.rxBytes bytes t0 dt) => if bytes.length = Config.RX_LEN then some (.rxBytes bytes t0 dt) else none
  | _ => none

/-- RXBYTE's two forms (R103). -/
def parseRxByte : List Token → Option ScriptLine
  | [.num b, .tick t] =>
    match fits 8 b, fits Config.TICK_W t with
    | some b, some t => some (.rxByteHere b t)
    | _, _ => none
  | [.num b, .tick t, .tag g] =>
    match fits 8 b, fits Config.TICK_W t, fits Config.TAG_W g with
    | some b, some t, some g => some (.event (.rxByte g b t))
    | _, _, _ => none
  | _ => none

/-- ISSUE's operands (R103). -/
def parseIssue : List Token → Option ScriptLine
  | [.num r, .num v] =>
    match fits 8 r, fits 16 v with
    | some r, some v => some (.event (.issue r v))
    | _, _ => none
  | _ => none

/-- One number of `w` bits (R103). -/
def parseOne (w : Nat) (make : BitVec w → Instr) : List Token → Option ScriptLine
  | [.num n] => (fits w n).map fun v => .event (make v)
  | _ => none

/-- One tick value (R103). -/
def parseTick (make : Tick → Instr) : List Token → Option ScriptLine
  | [.tick n] => (fits Config.TICK_W n).map fun t => .event (make t)
  | _ => none

/-- Why a line is not a script line. -/
inductive ScriptError where
  /-- No operation of R103 or R104 has this name. -/
  | unknownOperation (name : List Char)
  /-- The operation's operands are missing, too many, of another form or out of range. -/
  | badOperands (name : List Char)
  /-- The line does not begin with a name. -/
  | noOperation
deriving DecidableEq, Repr

/-- The operation of a line by its name (R103, R104): `none` for a name that is no operation, `some none` for operands that
do not fit. -/
def parseOperation (name : List Char) (args : List Token) : Option (Option ScriptLine) :=
  if name = ['I', 'N', 'I', 'T'] then some (parseOne Config.TAG_W .init args)
  else if name = ['R', 'X', 'B', 'Y', 'T', 'E'] then some (parseRxByte args)
  else if name = ['I', 'S', 'S', 'U', 'E'] then some (parseIssue args)
  else if name = ['D', 'R', 'I', 'V', 'E'] then some (parseTick .drive args)
  else if name = ['C', 'H', 'E', 'C', 'K', 'W', 'A', 'T', 'C', 'H', 'D', 'O', 'G'] then
    some (parseTick .checkWatchdog args)
  else if name = ['S', 'A', 'V', 'E'] then some (parseOne 16 .save args)
  else if name = ['C', 'A', 'L', 'I', 'B', 'R', 'A', 'T', 'E'] then some (parseOne 16 .calibrate args)
  else if name = ['S', 'E', 'T', 'O', 'U', 'T', 'P', 'U', 'T', 'C', 'O', 'N', 'T', 'E', 'N', 'T'] then
    some (parseOne 16 .setOutputContent args)
  else if name = ['S', 'E', 'T', 'O', 'U', 'T', 'P', 'U', 'T', 'R', 'A', 'T', 'E'] then
    some (parseOne 16 .setOutputRate args)
  else if name = ['S', 'E', 'T', 'B', 'A', 'U', 'D', 'R', 'A', 'T', 'E'] then some (parseOne 16 .setBaudRate args)
  else if name = ['R', 'X', 'F', 'R', 'A', 'M', 'E'] then some (elevenBytes (parseBytes [] args))
  else if name = ['R', 'X', 'B', 'Y', 'T', 'E', 'S'] then some (parseBytes [] args)
  else none

/-- One line: `none` where it holds no event (blank, or a comment only). -/
def parseLine (line : List Char) : Except ScriptError (Option ScriptLine) :=
  match tokens line with
  | [] => .ok none
  | .name cs :: args =>
    match parseOperation cs args with
    | none => .error (.unknownOperation cs)
    | some none => .error (.badOperands cs)
    | some (some l) => .ok (some l)
  | _ => .error .noOperation

/-- The lines of a text, `line` being the one under way: "one event per line" (R103). -/
def linesFrom (line : List Char) : List Char → List (List Char)
  | [] => [line]
  | c :: cs => if c = '\n' then line :: linesFrom [] cs else linesFrom (line ++ [c]) cs

/-- The script lines of parsed lines, or the first error. -/
def parseLines : List (List Char) → Except ScriptError (List ScriptLine)
  | [] => .ok []
  | l :: ls =>
    match parseLine l, parseLines ls with
    | .error e, _ => .error e
    | .ok _, .error e => .error e
    | .ok none, .ok rest => .ok rest
    | .ok (some x), .ok rest => .ok (x :: rest)

/-- The events of a script text, `tag` being the configured tag where it begins. -/
def parseScript (tag : Tag) (text : List Char) : Except ScriptError (List Instr) :=
  match parseLines (linesFrom [] text) with
  | .ok ls => .ok (expandScript tag ls)
  | .error e => .error e

/-- What a listing writes after an operation with a returned status (R103). -/
def Status.listing : Status → List Char
  | .ok => ['-', '>', ' ', 'O', 'k']
  | .busy => ['-', '>', ' ', 'B', 'u', 's', 'y']

/-- "A script whose first event is not INIT" is refused (70_reset_and_hazards.md R293). -/
def beginsWithInit : List Instr → Bool
  | .init _ :: _ => true
  | _ => false

end Sys2Proof.Machine
end

