-- ==== Sys2Proof/Machine/Views.lean ====
section
/-! DEFINITION. What a consumer or an observer sees (00_scope.md R15, 10_state.md R27 (c), R39). Physical values are exact
rationals of the raw registers, never rounded (R14, D4; log 22). Reading changes nothing (20_memory.md R71). -/

namespace Sys2Proof.Machine

/-- Three physical values, x, y, z. -/
structure PhysicalAxes where
  x : Rat
  y : Rat
  z : Rat
deriving DecidableEq, Repr

/-- The signed value of a raw register, as a rational (R13, R14). -/
def rawValue (v : Half) : Rat := (s16 v : Rat)

/-- `acc_raw × 16 / 32768` g (R28, R39). -/
def accValue (v : Half) : Rat := rawValue v * Config.ACC_NUM / Config.ACC_DEN

/-- `gyro_raw × 2000 / 32768` deg/s (R29, R39). -/
def gyroValue (v : Half) : Rat := rawValue v * Config.GYRO_NUM / Config.GYRO_DEN

/-- `angle_raw × 180 / 32768` deg (R30, R39). -/
def angleValue (v : Half) : Rat := rawValue v * Config.ANGLE_NUM / Config.ANGLE_DEN

/-- `mag_raw`, raw counts, "no scaling on field" (R31, R39). -/
def magValue (v : Half) : Rat := rawValue v

/-- `temp_raw / 100` degrees C and `volt_raw / 100` V (R32, R33, R39). -/
def centiValue (v : Half) : Rat := rawValue v / Config.CENTI

/-- The three physical values of an axis register triple. -/
def Axes.physical (a : Axes) (value : Half → Rat) : PhysicalAxes := ⟨value a.x, value a.y, value a.z⟩

/-- Acceleration in g (R39). -/
def SensorState.acc (r : SensorState) : PhysicalAxes := r.accRaw.physical accValue

/-- Angular velocity in deg/s (R39). -/
def SensorState.gyro (r : SensorState) : PhysicalAxes := r.gyroRaw.physical gyroValue

/-- Angle in deg (R39). -/
def SensorState.angle (r : SensorState) : PhysicalAxes := r.angleRaw.physical angleValue

/-- Magnetic field in raw counts (R39). -/
def SensorState.mag (r : SensorState) : PhysicalAxes := r.magRaw.physical magValue

/-- Temperature in degrees C (R39). -/
def SensorState.temperature (r : SensorState) : Rat := centiValue r.tempRaw

/-- Supply voltage in V (R39). -/
def SensorState.voltage (r : SensorState) : Rat := centiValue r.voltRaw

/-- Firmware version, a signed integer (R34, R39). -/
def SensorState.firmware (r : SensorState) : Int := s16 r.version

/-- A consumer's read: all of SensorState as it stands between two events, and nothing else (R27 (c), R265, D32). -/
def State.snapshot (s : State) : SensorState := s.sensor

/-- How old the last valid frame is, which a consumer computes itself: the only sign of trouble it has (60_exceptions.md
R257). -/
def SensorState.linkAge (r : SensorState) (now : Tick) : Tick := elapsed now r.lastFrameTs

/-- The observation of a run at a point: the output actions so far and SensorState (R15, D31). -/
def State.observation (s : State) : List Action × SensorState := (s.trace, s.sensor)

end Sys2Proof.Machine
end

