-- ==== Sys2Proof/Safety.lean ====
section
/-! DEFINITION. What counts as a good state and as a good run, in the terms the statements use. -/

namespace Sys2Proof.Safety

open Sys2Proof.Machine

/-- I1 (10_state.md R52): `rx_cursor <= 10`. -/
def CursorInRange (s : State) : Prop := s.rx.cursor.toNat < Config.RX_LEN

/-- I2 (R52): if `rx_cursor >= 1` then `rx_buf[0] = 0x55`. -/
def FrameBeginsWithSync (s : State) : Prop := s.rx.cursor ≠ 0 → s.rx.buf[0] = Config.SYNC

/-- I3 (R52): a command in flight has `cmd_frame[0] = 0xFF` and `cmd_frame[1] = 0xAA`. -/
def CommandHasHeader (s : State) : Prop :=
  s.tx.progress ≠ .idle → s.tx.frame[0] = Config.HDR0 ∧ s.tx.frame[1] = Config.HDR1

/-- I4 (R52): `echo[0]` is 0 or 0x55; if it is 0x55 then `echo[1] = 0x5F` and the echo's checksum matches. -/
def EchoIsFrame (s : State) : Prop :=
  s.sensor.echo[0] = 0 ∨
    (s.sensor.echo[0] = Config.SYNC ∧ s.sensor.echo[1] = Config.TYPE_ECHO ∧ frameValid s.sensor.echo = true)

/-- The invariants of 10_state.md R52. I5 and I6 are ranges that the widths of the registers enforce. -/
def BlockInv (s : State) : Prop := CursorInRange s ∧ FrameBeginsWithSync s ∧ CommandHasHeader s ∧ EchoIsFrame s

/-- `elapsed(now, t) = (now - t) mod 2^TICK_W` as a number, written from 00_scope.md R14 without the model's operation. -/
def ticksBetween (now t : Tick) : Nat := (now.toNat + 2 ^ Config.TICK_W - t.toNat) % 2 ^ Config.TICK_W

/-- The instruction is ISSUE or one of the five wrappers, with the register identifier and the value it issues
(43_command_catalog.md R215). -/
def issued : Instr → Option (Byte × Half)
  | .issue reg val => some (reg, val)
  | .save val => some (Config.REG_SAVE, val)
  | .calibrate val => some (Config.REG_CALIBRATE, val)
  | .setOutputContent mask => some (Config.REG_OUTPUT_CONTENT, mask)
  | .setOutputRate val => some (Config.REG_OUTPUT_RATE, val)
  | .setBaudRate val => some (Config.REG_BAUD_RATE, val)
  | .frameAcc _ _ => none
  | .frameGyro _ _ => none
  | .frameAngle _ _ => none
  | .frameMag _ _ => none
  | .frameEcho _ _ => none
  | .frameOther _ _ _ => none
  | .txUnlock => none
  | .txCommand _ _ _ => none
  | .init _ => none
  | .rxByte _ _ _ => none
  | .drive _ => none
  | .checkWatchdog _ => none

/-- The instruction is one of the six inbound frame rows. -/
def isFrame : Instr → Bool
  | .frameAcc _ _ => true
  | .frameGyro _ _ => true
  | .frameAngle _ _ => true
  | .frameMag _ _ => true
  | .frameEcho _ _ => true
  | .frameOther _ _ _ => true
  | .txUnlock => false
  | .txCommand _ _ _ => false
  | .init _ => false
  | .rxByte _ _ _ => false
  | .issue _ _ => false
  | .drive _ => false
  | .checkWatchdog _ => false
  | .save _ => false
  | .calibrate _ => false
  | .setOutputContent _ => false
  | .setOutputRate _ => false
  | .setBaudRate _ => false

/-- The instruction is DRIVE or one of the two outbound frame rows, which perform a part of DRIVE (log 8). -/
def isTransmit : Instr → Bool
  | .txUnlock => true
  | .txCommand _ _ _ => true
  | .drive _ => true
  | .frameAcc _ _ => false
  | .frameGyro _ _ => false
  | .frameAngle _ _ => false
  | .frameMag _ _ => false
  | .frameEcho _ _ => false
  | .frameOther _ _ _ => false
  | .init _ => false
  | .rxByte _ _ _ => false
  | .issue _ _ => false
  | .checkWatchdog _ => false
  | .save _ => false
  | .calibrate _ => false
  | .setOutputContent _ => false
  | .setOutputRate _ => false
  | .setBaudRate _ => false

/-- The row of a frame of type `type` (30_encoding.md R92). -/
def frameInstr (type : Byte) (d : Payload) (cs : Byte) : Instr :=
  if type = Config.TYPE_ACC then .frameAcc d cs
  else if type = Config.TYPE_GYRO then .frameGyro d cs
  else if type = Config.TYPE_ANGLE then .frameAngle d cs
  else if type = Config.TYPE_MAG then .frameMag d cs
  else if type = Config.TYPE_ECHO then .frameEcho d cs
  else .frameOther type d cs

/-- The events of a list hold no INIT: nothing resets the block between them. -/
def NoInit (is : List Instr) : Prop := ∀ i ∈ is, ∀ tag, i ≠ .init tag

/-- The RXBYTE events that deliver a list of bytes from transport `tag`, each with its tick, in order (20_memory.md R73). -/
def deliver (tag : Tag) (bytes : List (Byte × Tick)) : List Instr := bytes.map fun p => .rxByte tag p.1 p.2

/-- The protocol a trace follows between two resets (20_memory.md R74): where the commands stand after the actions so far.
`none` is a violation. -/
inductive Protocol where
  /-- No command in flight, or one whose two frames are both out. -/
  | quiet
  /-- A command was accepted; nothing of it is out. -/
  | accepted
  /-- Its unlock frame is out. -/
  | unlocked
deriving DecidableEq, Repr

/-- One action of the protocol: after an `Ok`, exactly one unlock frame and then exactly one command frame `FF AA ..` before
the next `Ok`; a `Busy` and an `rx_arm` may stand anywhere. -/
def Protocol.next (p : Protocol) (a : Action) : Option Protocol :=
  match a, p with
  | .rxArm, p => some p
  | .status .busy, p => some p
  | .status .ok, .quiet => some .accepted
  | .status .ok, _ => none
  | .tx f, .accepted => if f = Config.UNLOCK then some .unlocked else none
  | .tx f, .unlocked => if f[0] = Config.HDR0 ∧ f[1] = Config.HDR1 then some .quiet else none
  | .tx _, .quiet => none

/-- The protocol over a list of actions. -/
def Protocol.after (p : Protocol) : List Action → Option Protocol
  | [] => some p
  | a :: as =>
    match p.next a with
    | some q => q.after as
    | none => none

/-- Where the protocol stands in a state, as `tx_progress` says. -/
def protocolOf (s : State) : Protocol :=
  match s.tx.progress with
  | .idle => .quiet
  | .unlockPending => .accepted
  | .unlockSent => .unlocked
  | .commandSent => .quiet

end Sys2Proof.Safety
end

