-- ==== Sys2Proof/Certificates/Slice0/Obligations.lean ====
section
/-! DEFINITION. The statements for the provers, in the order of OBLIGATIONS.json. -/

open Sys2Proof Sys2Proof.Machine Sys2Proof.Safety

/-! ## Encoding -/

/-- 30_encoding.md sections 1, 2, 4: decoding the words of a well-formed instruction gives it back, every operand at every
value. -/
def Obligations.DecodeOfEncodeIsIdentity : Prop :=
  ∀ i : Instr, i.wellFormed = true → decode (encode i) = .ok i

/-- 30_encoding.md sections 1 and 2: an inbound or outbound frame that decodes is, byte for byte, the encoding of what it
decodes to, so no bit of a frame is dropped. (An event word's unused fields are dropped: EventWordFields.) -/
def Obligations.DecodedFrameReencodes : Prop :=
  ∀ (bs : List Byte) (i : Instr), decode bs = .ok i → bs.length ≠ 8 → encode i = bs

/-- 30_encoding.md section 4 (the event word is the spec's own, D20; reserved words and unused fields, D34): each operation
code reads exactly its fields, whatever stands in the others, and a reserved code is refused by name. -/
def Obligations.EventWordFields : Prop :=
  ∀ (op tag : BitVec 4) (a8 vh vl n3 n2 n1 n0 : Byte),
    decode [op ++ tag, a8, vh, vl, n3, n2, n1, n0] =
      match op.toNat with
      | 1 => .ok (.init tag)
      | 2 => .ok (.rxByte tag a8 (n3 ++ n2 ++ n1 ++ n0))
      | 3 => .ok (.issue a8 (vh ++ vl))
      | 4 => .ok (.drive (n3 ++ n2 ++ n1 ++ n0))
      | 5 => .ok (.checkWatchdog (n3 ++ n2 ++ n1 ++ n0))
      | 6 => .ok (.save (vh ++ vl))
      | 7 => .ok (.calibrate (vh ++ vl))
      | 8 => .ok (.setOutputContent (vh ++ vl))
      | 9 => .ok (.setOutputRate (vh ++ vl))
      | 10 => .ok (.setBaudRate (vh ++ vl))
      | _ => .error (.reservedEventOpcode op)

/-- 30_encoding.md section 4 (conventions of opcode_table.json, D20): for every word of every width of the table, the decoder
gives the row that the mask rule selects, the most mask bits winning, and refuses where no row matches. -/
def Obligations.DecoderAgreesWithOpcodeTable : Prop :=
  ∀ nbits w : Nat, nbits = 88 ∨ nbits = 40 ∨ nbits = 64 → w < 2 ^ nbits →
    (decodeTableWord nbits w).map Instr.mnemonic = (selectRow nbits w).map OpcodeRow.mnemonic

/-- 95_test_vectors.md B7 and S8: words written out in the spec decode to the events they stand for. -/
def Obligations.SpecWordsDecode : Prop :=
  decodeTableWord 64 0x1200000000000000 = some (.init 2) ∧
  decodeTableWord 64 0x2155000000000005 = some (.rxByte 1 0x55 5) ∧
  decodeTableWord 64 0x3069B58800000000 = some (.issue 0x69 0xB588) ∧
  decodeTableWord 64 0x5000000000000096 = some (.checkWatchdog 150) ∧
  decodeTableWord 88 0x55510040000000000000E6 = some (.frameAcc ⟨0, 0x40, 0, 0, 0, 0, 0, 0⟩ 0xE6) ∧
  decodeTableWord 40 0xFFAA6988B5 = some .txUnlock ∧
  decodeTableWord 40 0xFFAA030600 = some (.txCommand 0x03 0x06 0x00) ∧
  decodeTableWord 64 0xB000000000000000 = none

/-- 30_encoding.md section 2 and R105's row rule, the model's reading (log 9): a command frame with the unlock frame's bytes
is read as TX.UNLOCK, and it is the only well-shaped TX5 word that does not read back as itself. -/
def Obligations.OnlyUnlockBytesReadAsUnlock : Prop :=
  ∀ reg valLo valHi : Byte,
    (decode (encode (.txCommand reg valLo valHi)) = .ok .txUnlock ↔ reg = 0x69 ∧ valLo = 0x88 ∧ valHi = 0xB5) ∧
    (decode (encode (.txCommand reg valLo valHi)) ≠ .ok .txUnlock →
      decode (encode (.txCommand reg valLo valHi)) = .ok (.txCommand reg valLo valHi))

/-- 30_encoding.md section 1: the eleven bytes of a frame are valid by the receiver's sum exactly when the checksum byte is
the one the encoder writes. -/
def Obligations.ChecksumConstraintIsValidity : Prop :=
  ∀ (type : Byte) (d : Payload) (cs : Byte), frameValid (frameBuffer type d cs) = true ↔ cs = checksumOf type d

/-! ## Steps and runs -/

/-- 30_encoding.md section 4, with the model's own script (logs 1 and 5): a step takes the next word off the script, samples
the tick the event carries, and is the execution of the decoded instruction. -/
def Obligations.StepRunsDecodedInstruction : Prop :=
  ∀ (s : State) (word : List Byte) (rest : List (List Byte)) (i : Instr),
    s.script = word :: rest → decode word = .ok i →
      step s = exec i { s with script := rest, tickIn := i.now?.getD s.tickIn }

/-- 30_encoding.md section 4 (D34), with the model's own script (logs 1 and 23): a word that is no word of the table is
refused by name, and with no word left no event is taken. -/
def Obligations.StepRefusesUndecodableWord : Prop :=
  ∀ s : State,
    (s.script = [] → step s = .next s) ∧
    (∀ (word : List Byte) (rest : List (List Byte)) (e : DecodeError),
      s.script = word :: rest → decode word = .error e → step s = .refused (.undecodable e))

/-- 20_memory.md section 5, with the model's own script (log 1): a script of well-formed words runs as its events taken one
after another in order, and leaves the rest of the script. -/
def Obligations.ScriptRunIsEventSequence : Prop :=
  ∀ (is : List Instr) (s t : State) (rest : List (List Byte)),
    (∀ i ∈ is, i.wellFormed = true) → takeEvents is { s with script := rest } = .next t →
      Host.Core.run Sys2Proof.core is.length ({ s with script := scriptOf is ++ rest } : State) = .next t ∧
        t.script = rest

/-- 00_scope.md R10, "The trace is not state: no rule reads it", and 30_encoding.md section 4 of the script: an event only
appends to the trace, leaves the script alone, and does the same whatever stands in either. -/
def Obligations.TraceAndScriptAreNotRead : Prop :=
  ∀ (i : Instr) (s t : State) (tr : List Action) (sc : List (List Byte)), exec i s = .next t →
    t.script = s.script ∧
    ∃ acts : List Action, t.trace = s.trace ++ acts ∧
      exec i { s with trace := tr, script := sc } = .next { t with trace := tr ++ acts, script := sc }

/-- Each event appends at most one output action (log 4): one rx_arm for an accepted byte (40_frame_receiver.md section 1),
for INIT (70_reset_and_hazards.md section 1) and for a restart (44_watchdog.md section 1), one status for ISSUE and a wrapper
(42_command_transmitter.md section 1, 43_command_catalog.md section 2), at most one frame for DRIVE
(42_command_transmitter.md section 2). -/
def Obligations.AtMostOneActionPerEvent : Prop :=
  ∀ (i : Instr) (s t : State), exec i s = .next t → ∃ acts : List Action, t.trace = s.trace ++ acts ∧ acts.length ≤ 1

/-- 60_exceptions.md section 1 and 00_scope.md section 4: after INIT every event of every instruction runs to completion: the
block never raises, halts or enters an error state; and INIT completes in any state. -/
def Obligations.EveryEventCompletes : Prop :=
  ∀ (i : Instr) (s : State), (s.initialised = true ∨ ∃ tag, i = .init tag) →
    ∃ t, exec i s = .next t ∧ t.initialised = true

/-- 70_reset_and_hazards.md section 1 (D11; log 3): before the first INIT no other operation has a meaning. -/
def Obligations.NothingBeforeInit : Prop :=
  ∀ (i : Instr) (s : State), s.initialised = false → (∀ tag, i ≠ .init tag) → exec i s = .refused .beforeInit

/-! ## Invariants and reset -/

/-- 10_state.md section 6: every step keeps the invariants I1 to I4 (I5 and I6 are the registers' widths). -/
def Obligations.StepKeepsInvariants : Prop :=
  ∀ s t : State, BlockInv s → step s = .next t → BlockInv t

/-- 10_state.md section 6: the invariants hold at reset, and INIT establishes them from any state. -/
def Obligations.InitEstablishesInvariants : Prop :=
  BlockInv State.reset ∧ ∀ (tag : Tag) (s t : State), exec (.init tag) s = .next t → BlockInv t

/-- 70_reset_and_hazards.md section 1 (D10, D11): INIT writes the tag, zeroes every other register whatever the state was,
and emits one rx_arm. The last four fields are the model's own (logs 1, 3, 4, 5). -/
def Obligations.InitResetsEveryRegister : Prop :=
  ∀ (tag : Tag) (s : State), exec (.init tag) s = .next
    { cfgTag := tag
      rx := { last := 0, buf := #v[0, 0, 0, 0, 0, 0, 0, 0, 0, 0, 0], cursor := 0 }
      sensor :=
        { accRaw := ⟨0, 0, 0⟩, gyroRaw := ⟨0, 0, 0⟩, angleRaw := ⟨0, 0, 0⟩, magRaw := ⟨0, 0, 0⟩,
          tempRaw := 0, voltRaw := 0, version := 0, lastFrameTs := 0, anglePeriod := 0,
          echo := #v[0, 0, 0, 0, 0, 0, 0, 0, 0, 0, 0] }
      angleTs := 0
      tx := { frame := #v[0, 0, 0, 0, 0], progress := .idle, ts := 0 }
      wdRestartTs := 0
      initialised := true
      trace := s.trace ++ [.rxArm]
      tickIn := s.tickIn
      script := s.script }

/-- 95_test_vectors.md, "Start: reset" (log 2, the model's choice): the reset state is what INIT 0 leaves of a block that has
emitted nothing, at tick input 0 with an empty script. -/
def Obligations.ResetIsInitZero : Prop :=
  ∀ s : State, s.trace = [] → s.tickIn = 0 → s.script = [] → exec (.init 0) s = .next State.reset

/-! ## The receiver -/

/-- 40_frame_receiver.md section 1 (DOC0's "silently ignored", in the extent of D12): a byte tagged for another transport has
no effect at all. -/
def Obligations.TransportMismatchHasNoEffect : Prop :=
  ∀ (tag : Tag) (b : Byte) (now : Tick) (s : State), s.initialised = true → tag ≠ s.cfgTag →
    exec (.rxByte tag b now) s = .next s

/-- 40_frame_receiver.md R122: while AwaitingSync a byte other than 0x55 is discarded; only `rx_last` takes it and one rx_arm
is emitted. -/
def Obligations.NonSyncByteIsDiscarded : Prop :=
  ∀ (b : Byte) (now : Tick) (s : State), s.initialised = true → s.rx.cursor = 0 → b ≠ 0x55 →
    exec (.rxByte s.cfgTag b now) s =
      .next { s with rx := { s.rx with last := b }, trace := s.trace ++ [.rxArm] }

/-- 40_frame_receiver.md section 1: below the eleventh position an accepted byte, of any value once a frame has begun, is
stored at `rx_cursor`, which advances; nothing else but `rx_last` and one rx_arm. -/
def Obligations.AcceptedByteIsAppended : Prop :=
  ∀ (b : Byte) (now : Tick) (s : State) (k : Nat), s.initialised = true → s.rx.cursor.toNat = k → k < 10 →
    (k ≠ 0 ∨ b = 0x55) →
    ∃ t, exec (.rxByte s.cfgTag b now) s = .next t ∧
      t = { s with rx := t.rx, trace := s.trace ++ [.rxArm] } ∧
      t.rx.last = b ∧ t.rx.cursor.toNat = k + 1 ∧
      ∀ j (h : j < 11), t.rx.buf[j] = if j = k then b else s.rx.buf[j]

/-- 40_frame_receiver.md R124: the event that stores the eleventh byte ends with `rx_cursor` = 0, whatever validation and
decode do, and with the eleven bytes as they were collected. -/
def Obligations.EleventhByteResetsCursor : Prop :=
  ∀ (b : Byte) (now : Tick) (s : State), s.initialised = true → s.rx.cursor = 10 →
    ∃ t, exec (.rxByte s.cfgTag b now) s = .next t ∧ t.rx.cursor = 0 ∧ t.rx.last = b ∧
      ∀ j (h : j < 11), t.rx.buf[j] = if j = 10 then b else s.rx.buf[j]

/-- 40_frame_receiver.md section 1: an eleventh byte that is not the sum of the ten before it drops the frame: SensorState,
`angle_ts` and the link timestamp are untouched, and nothing else changes but the ReceiveBuffer and the one rx_arm. -/
def Obligations.InvalidFrameIsDropped : Prop :=
  ∀ (b0 b1 b2 b3 b4 b5 b6 b7 b8 b9 old b : Byte) (now : Tick) (s : State), s.initialised = true → s.rx.cursor = 10 →
    s.rx.buf = #v[b0, b1, b2, b3, b4, b5, b6, b7, b8, b9, old] →
    (b0.toNat + b1.toNat + b2.toNat + b3.toNat + b4.toNat + b5.toNat + b6.toNat + b7.toNat + b8.toNat + b9.toNat) % 256
      ≠ b.toNat →
    exec (.rxByte s.cfgTag b now) s =
      .next { s with
        rx := { last := b, buf := #v[b0, b1, b2, b3, b4, b5, b6, b7, b8, b9, b], cursor := 0 }
        trace := s.trace ++ [.rxArm] }

/-- 40_frame_receiver.md R127: an eleventh byte that is the sum of the ten before it sets the link timestamp to the tick of
that byte, whatever the type code. -/
def Obligations.ValidFrameStampsLink : Prop :=
  ∀ (b0 b1 b2 b3 b4 b5 b6 b7 b8 b9 old b : Byte) (now : Tick) (s : State), s.initialised = true → s.rx.cursor = 10 →
    s.rx.buf = #v[b0, b1, b2, b3, b4, b5, b6, b7, b8, b9, old] →
    (b0.toNat + b1.toNat + b2.toNat + b3.toNat + b4.toNat + b5.toNat + b6.toNat + b7.toNat + b8.toNat + b9.toNat) % 256
      = b.toNat →
    ∃ t, exec (.rxByte s.cfgTag b now) s = .next t ∧ t.sensor.lastFrameTs = now

/-- 40_frame_receiver.md section 1 and 41_frame_decode.md section 1 (log 6): the RXBYTE that completes a buffer beginning
with the sync byte does, besides its bookkeeping, exactly what the frame instruction of those eleven bytes does at that
tick. -/
def Obligations.CompletedFrameRunsItsInstruction : Prop :=
  ∀ (type : Byte) (d : Payload) (old b : Byte) (now : Tick) (s : State), s.initialised = true → s.rx.cursor = 10 →
    s.rx.buf = frameBuffer type d old →
    ∃ u, exec (frameInstr type d b)
          { s with rx := { last := b, buf := frameBuffer type d b, cursor := 0 }, tickIn := now } = .next u ∧
      exec (.rxByte s.cfgTag b now) s = .next { u with tickIn := s.tickIn, trace := u.trace ++ [.rxArm] }

/-- 40_frame_receiver.md section 2, the source's properties of whole frames: from `rx_cursor` = 0 the eleven bytes of a frame,
valid or not, at any ticks, end with the cursor at 0 and the buffer holding the frame, eleven rx_arm, and otherwise exactly
the effect of the frame's instruction at the tick of the eleventh byte. -/
def Obligations.ElevenBytesReceiveOneFrame : Prop :=
  ∀ (type : Byte) (d : Payload) (cs : Byte) (t0 t1 t2 t3 t4 t5 t6 t7 t8 t9 t10 : Tick) (s : State),
    s.initialised = true → s.rx.cursor = 0 →
    ∃ u, exec (frameInstr type d cs) { s with tickIn := t10 } = .next u ∧
      takeEvents
          (deliver s.cfgTag
            [(0x55, t0), (type, t1), (d.d0, t2), (d.d1, t3), (d.d2, t4), (d.d3, t5), (d.d4, t6), (d.d5, t7), (d.d6, t8),
              (d.d7, t9), (cs, t10)]) s =
        .next { u with
          rx := { last := cs, buf := frameBuffer type d cs, cursor := 0 }
          trace := s.trace ++ List.replicate 11 .rxArm }

/-- 40_frame_receiver.md section 2 (C9): from `rx_cursor` = 0, bytes none of which is 0x55 leave the cursor at 0 and change
nothing but `rx_last` and the tick input, one rx_arm each. -/
def Obligations.NoSyncNoFrame : Prop :=
  ∀ (bytes : List (Byte × Tick)) (s : State), s.initialised = true → s.rx.cursor = 0 → (∀ p ∈ bytes, p.1 ≠ 0x55) →
    ∃ t, takeEvents (deliver s.cfgTag bytes) s = .next t ∧
      t = { s with rx := t.rx, tickIn := t.tickIn, trace := s.trace ++ List.replicate bytes.length .rxArm } ∧
      t.rx.cursor = 0 ∧ t.rx.buf = s.rx.buf ∧ t.rx.last = ((bytes.map Prod.fst).getLast?).getD s.rx.last

/-- 40_frame_receiver.md section 2 and 95_test_vectors.md V-RX-9: a receiver locked nine bytes into the false frame
`55 00 00 00 00 00 00 00 FC ..` stays locked however often the true frame `55 52 55 00 00 00 00 00 00 00 FC` comes, and
SensorState never changes. -/
def Obligations.FalseLockPersists : Prop :=
  ∀ (n : Nat) (now : Tick) (s : State) (x y : Byte), s.initialised = true → s.rx.cursor = 9 →
    s.rx.buf = #v[0x55, 0, 0, 0, 0, 0, 0, 0, 0xFC, x, y] →
    ∃ t, takeEvents
          (deliver s.cfgTag
            (List.replicate n
              [(0x55, now), (0x52, now), (0x55, now), (0, now), (0, now), (0, now), (0, now), (0, now), (0, now), (0, now),
                (0xFC, now)]).flatten) s = .next t ∧
      t.rx.cursor = 9 ∧ t.sensor = s.sensor ∧ t.angleTs = s.angleTs

/-- 40_frame_receiver.md section 1: the 8-bit sum detects every change of a single byte of a valid frame. -/
def Obligations.SingleByteChangeIsDetected : Prop :=
  ∀ (buf : Vector Byte Config.RX_LEN) (k : Nat) (v : Byte) (h : k < 11), frameValid buf = true → v ≠ buf[k] →
    frameValid (buf.set k v) = false

/-- 70_reset_and_hazards.md section 3: the 8-bit sum passes two of its ten bytes swapped. -/
def Obligations.SwappedBytesPass : Prop :=
  ∀ (buf : Vector Byte Config.RX_LEN) (j k : Fin 10),
    frameValid (buf.swap j k (Nat.lt_succ_of_lt j.isLt) (Nat.lt_succ_of_lt k.isLt)) = frameValid buf

/-! ## The decode -/

/-- 41_frame_decode.md section 1 and 30_encoding.md section 1: a field is its two bytes, low byte first, read as a signed
16-bit value. -/
def Obligations.FieldIsSignedLittleEndian : Prop :=
  ∀ lo hi : Byte, s16 (pair lo hi) =
    if 256 * hi.toNat + lo.toNat ≤ 32767 then (256 * hi.toNat + lo.toNat : Int)
    else (256 * hi.toNat + lo.toNat : Int) - 65536

/-- 41_frame_decode.md section 2 (axis order D5; as an instruction of its own, log 6): a valid FRAME.ACC writes the three
acceleration registers, the temperature and the link timestamp, and nothing else. -/
def Obligations.FrameAccUpdates : Prop :=
  ∀ (d : Payload) (cs : Byte) (s : State), s.initialised = true → cs = checksumOf 0x51 d →
    exec (.frameAcc d cs) s = .next
      { s with
        sensor :=
          { s.sensor with
            accRaw := ⟨d.d1 ++ d.d0, d.d3 ++ d.d2, d.d5 ++ d.d4⟩, tempRaw := d.d7 ++ d.d6, lastFrameTs := s.tickIn } }

/-- 41_frame_decode.md section 2 (D5; log 6): a valid FRAME.GYRO writes the three angular velocity registers, the voltage and
the link timestamp, and nothing else. -/
def Obligations.FrameGyroUpdates : Prop :=
  ∀ (d : Payload) (cs : Byte) (s : State), s.initialised = true → cs = checksumOf 0x52 d →
    exec (.frameGyro d cs) s = .next
      { s with
        sensor :=
          { s.sensor with
            gyroRaw := ⟨d.d1 ++ d.d0, d.d3 ++ d.d2, d.d5 ++ d.d4⟩, voltRaw := d.d7 ++ d.d6, lastFrameTs := s.tickIn } }

/-- 41_frame_decode.md section 2 (D5, D6, D7; log 6): a valid FRAME.ANGLE writes the three angle registers, the version, the
period since the previous one, `angle_ts` and the link timestamp, and nothing else. -/
def Obligations.FrameAngleUpdates : Prop :=
  ∀ (d : Payload) (cs : Byte) (s : State), s.initialised = true → cs = checksumOf 0x53 d →
    exec (.frameAngle d cs) s = .next
      { s with
        sensor :=
          { s.sensor with
            angleRaw := ⟨d.d1 ++ d.d0, d.d3 ++ d.d2, d.d5 ++ d.d4⟩, version := d.d7 ++ d.d6,
            anglePeriod := BitVec.ofNat 32 (ticksBetween s.tickIn s.angleTs), lastFrameTs := s.tickIn }
        angleTs := s.tickIn }

/-- 41_frame_decode.md section 2 (D5, D27; log 6): a valid FRAME.MAG writes the three magnetic registers, the temperature and
the link timestamp, and nothing else. -/
def Obligations.FrameMagUpdates : Prop :=
  ∀ (d : Payload) (cs : Byte) (s : State), s.initialised = true → cs = checksumOf 0x54 d →
    exec (.frameMag d cs) s = .next
      { s with
        sensor :=
          { s.sensor with
            magRaw := ⟨d.d1 ++ d.d0, d.d3 ++ d.d2, d.d5 ++ d.d4⟩, tempRaw := d.d7 ++ d.d6, lastFrameTs := s.tickIn } }

/-- 41_frame_decode.md section 2 (log 6): a valid FRAME.ECHO stores its eleven bytes verbatim and stamps the link; a valid
frame of a type code other than the five recognised ones only stamps the link. -/
def Obligations.FrameEchoAndOtherUpdates : Prop :=
  ∀ (type : Byte) (d : Payload) (cs : Byte) (s : State), s.initialised = true →
    (cs = checksumOf 0x5F d →
      exec (.frameEcho d cs) s = .next
        { s with
          sensor :=
            { s.sensor with
              echo := #v[0x55, 0x5F, d.d0, d.d1, d.d2, d.d3, d.d4, d.d5, d.d6, d.d7, cs], lastFrameTs := s.tickIn } }) ∧
    (type ≠ 0x51 → type ≠ 0x52 → type ≠ 0x53 → type ≠ 0x54 → type ≠ 0x5F → cs = checksumOf type d →
      exec (.frameOther type d cs) s = .next { s with sensor := { s.sensor with lastFrameTs := s.tickIn } })

/-- 40_frame_receiver.md section 1 (log 7): a frame word whose checksum does not match is dropped, whatever its type. -/
def Obligations.InvalidFrameWordIsDropped : Prop :=
  ∀ (type : Byte) (d : Payload) (cs : Byte) (s : State), s.initialised = true → cs ≠ checksumOf type d →
    exec (frameInstr type d cs) s = .next s

/-- 41_frame_decode.md section 3: what a byte does to the receiver, to SensorState and to `angle_ts` does not depend on the
transmitter, the watchdog or the output. -/
def Obligations.DecodeIgnoresTransmitter : Prop :=
  ∀ (tag : Tag) (b : Byte) (now : Tick) (s s' t t' : State),
    s'.cfgTag = s.cfgTag → s'.rx = s.rx → s'.sensor = s.sensor → s'.angleTs = s.angleTs →
    exec (.rxByte tag b now) s = .next t → exec (.rxByte tag b now) s' = .next t' →
    t'.rx = t.rx ∧ t'.sensor = t.sensor ∧ t'.angleTs = t.angleTs

/-- 10_state.md section 3 (D4): the physical views are the reduced exact fractions of the signed raw value, and each is
injective. -/
def Obligations.PhysicalViewsAreExact : Prop :=
  (∀ v : Half, accValue v = (v.toInt : Rat) / 2048 ∧ gyroValue v = (v.toInt : Rat) * 125 / 2048 ∧
    angleValue v = (v.toInt : Rat) * 45 / 8192 ∧ magValue v = (v.toInt : Rat) ∧
    centiValue v = (v.toInt : Rat) / 100) ∧
  (∀ v w : Half, accValue v = accValue w ∨ gyroValue v = gyroValue w ∨ angleValue v = angleValue w ∨
    magValue v = magValue w ∨ centiValue v = centiValue w → v = w)

/-- 41_frame_decode.md section 3, the source's round trip: any acceleration, angular velocity or angle in the sensor's range,
put into the x pair of a valid frame as the raw count just below it, is read back within one quantisation step. -/
def Obligations.QuantisedValueRoundTrip : Prop :=
  ∀ (v : Rat) (d : Payload) (s : State), s.initialised = true →
    (-16 ≤ v → v < 16 → d.d1 ++ d.d0 = BitVec.ofInt 16 ⌊v * 2048⌋ →
      ∃ t, exec (.frameAcc d (checksumOf 0x51 d)) s = .next t ∧
        t.snapshot.acc.x ≤ v ∧ v < t.snapshot.acc.x + 1 / 2048) ∧
    (-2000 ≤ v → v < 2000 → d.d1 ++ d.d0 = BitVec.ofInt 16 ⌊v * 2048 / 125⌋ →
      ∃ t, exec (.frameGyro d (checksumOf 0x52 d)) s = .next t ∧
        t.snapshot.gyro.x ≤ v ∧ v < t.snapshot.gyro.x + 125 / 2048) ∧
    (-180 ≤ v → v < 180 → d.d1 ++ d.d0 = BitVec.ofInt 16 ⌊v * 8192 / 45⌋ →
      ∃ t, exec (.frameAngle d (checksumOf 0x53 d)) s = .next t ∧
        t.snapshot.angle.x ≤ v ∧ v < t.snapshot.angle.x + 45 / 8192)

/-! ## The transmitter -/

/-- 42_command_transmitter.md R181: from Idle, ISSUE stores the frame `FF AA reg low high`, sets UnlockPending and answers Ok,
for every register identifier and every value; nothing is transmitted and nothing else changes. -/
def Obligations.IssueStoresCommand : Prop :=
  ∀ (reg : Byte) (val : Half) (s : State), s.initialised = true → s.tx.progress = .idle →
    exec (.issue reg val) s = .next
      { s with
        tx :=
          { frame := #v[0xFF, 0xAA, reg, BitVec.ofNat 8 val.toNat, BitVec.ofNat 8 (val.toNat / 256)]
            progress := .unlockPending
            ts := s.tx.ts }
        trace := s.trace ++ [.status .ok] }

/-- 60_exceptions.md R255: while a command is in flight, ISSUE and each of the five wrappers answer Busy in the same event
and change nothing. -/
def Obligations.BusyIsReportedAndChangesNothing : Prop :=
  ∀ (i : Instr) (reg : Byte) (val : Half) (s : State), s.initialised = true → issued i = some (reg, val) →
    s.tx.progress ≠ .idle → exec i s = .next { s with trace := s.trace ++ [.status .busy] }

/-- 43_command_catalog.md section 1: each wrapper is exactly ISSUE with its register identifier, in every state. -/
def Obligations.WrappersAreIssue : Prop :=
  ∀ (val : Half) (s : State),
    exec (.save val) s = exec (.issue Config.REG_SAVE val) s ∧
    exec (.calibrate val) s = exec (.issue Config.REG_CALIBRATE val) s ∧
    exec (.setOutputContent val) s = exec (.issue Config.REG_OUTPUT_CONTENT val) s ∧
    exec (.setOutputRate val) s = exec (.issue Config.REG_OUTPUT_RATE val) s ∧
    exec (.setBaudRate val) s = exec (.issue Config.REG_BAUD_RATE val) s

/-- 43_command_catalog.md sections 1 and 2: from Idle, ISSUE and each wrapper (SAVE, CALIBRATE, SETOUTPUTCONTENT,
SETOUTPUTRATE, SETBAUDRATE) complete: the command with the wrapper's register identifier is stored, and read back from
`cmd_frame` it is that identifier and that value. -/
def Obligations.WrappersStoreTheirCommand : Prop :=
  ∀ (i : Instr) (reg : Byte) (val : Half) (s : State), s.initialised = true → issued i = some (reg, val) →
    s.tx.progress = .idle →
    ∃ t, exec i s = .next t ∧ t = { s with tx := t.tx, trace := s.trace ++ [.status .ok] } ∧
      t.tx.progress = .unlockPending ∧ t.tx.ts = s.tx.ts ∧ t.tx.frame[0] = 0xFF ∧ t.tx.frame[1] = 0xAA ∧
      t.tx.register = reg ∧ t.tx.value = val

/-- 42_command_transmitter.md R185: DRIVE in Idle changes nothing and emits nothing. -/
def Obligations.DriveInIdleDoesNothing : Prop :=
  ∀ (now : Tick) (s : State), s.initialised = true → s.tx.progress = .idle → exec (.drive now) s = .next s

/-- 42_command_transmitter.md R186: DRIVE in UnlockPending transmits the unlock frame, records the tick and advances, at any
tick. -/
def Obligations.DriveSendsUnlock : Prop :=
  ∀ (now : Tick) (s : State), s.initialised = true → s.tx.progress = .unlockPending →
    exec (.drive now) s = .next
      { s with
        tx := { s.tx with progress := .unlockSent, ts := now }
        trace := s.trace ++ [.tx #v[0xFF, 0xAA, 0x69, 0x88, 0xB5]] }

/-- 42_command_transmitter.md section 2 (the count modulo the wrap is the spec's D2): DRIVE in UnlockSent transmits the stored
frame once 10 ticks have elapsed, inclusive and across a wrap; before that it changes nothing. -/
def Obligations.DriveSendsCommand : Prop :=
  ∀ (now : Tick) (s : State), s.initialised = true → s.tx.progress = .unlockSent →
    exec (.drive now) s = .next
      (if 10 ≤ ticksBetween now s.tx.ts then
        { s with
          tx := { s.tx with progress := .commandSent, ts := now }
          trace := s.trace ++ [.tx s.tx.frame] }
      else s)

/-- 42_command_transmitter.md section 2 (D2): DRIVE in CommandSent returns to Idle once 10 ticks have elapsed, keeping `cmd_frame` and
`tx_ts` and emitting nothing; before that it changes nothing. -/
def Obligations.DriveCompletesCommand : Prop :=
  ∀ (now : Tick) (s : State), s.initialised = true → s.tx.progress = .commandSent →
    exec (.drive now) s = .next
      (if 10 ≤ ticksBetween now s.tx.ts then { s with tx := { s.tx with progress := .idle } } else s)

/-- 42_command_transmitter.md section 3, with the model's reading of an outbound row as an instruction (log 8): TX.UNLOCK
transmits in UnlockPending, TX.COMMAND in UnlockSent with the window elapsed and the stored frame of its bytes, and each does
there what DRIVE does; elsewhere it changes nothing. -/
def Obligations.OutboundRowsAreDriveEmissions : Prop :=
  ∀ (reg valLo valHi : Byte) (s : State), s.initialised = true →
    (s.tx.progress = .unlockPending →
      exec .txUnlock s = .next
        { s with
          tx := { s.tx with progress := .unlockSent, ts := s.tickIn }
          trace := s.trace ++ [.tx #v[0xFF, 0xAA, 0x69, 0x88, 0xB5]] } ∧
      exec .txUnlock s = exec (.drive s.tickIn) s) ∧
    (s.tx.progress ≠ .unlockPending → exec .txUnlock s = .next s) ∧
    (s.tx.progress = .unlockSent ∧ 10 ≤ ticksBetween s.tickIn s.tx.ts ∧ s.tx.frame = #v[0xFF, 0xAA, reg, valLo, valHi] →
      exec (.txCommand reg valLo valHi) s = .next
        { s with
          tx := { s.tx with progress := .commandSent, ts := s.tickIn }
          trace := s.trace ++ [.tx #v[0xFF, 0xAA, reg, valLo, valHi]] } ∧
      exec (.txCommand reg valLo valHi) s = exec (.drive s.tickIn) s) ∧
    (¬ (s.tx.progress = .unlockSent ∧ 10 ≤ ticksBetween s.tickIn s.tx.ts ∧
        s.tx.frame = #v[0xFF, 0xAA, reg, valLo, valHi]) →
      exec (.txCommand reg valLo valHi) s = .next s)

/-- 42_command_transmitter.md section 2: the transitions of `tx_progress` other than INIT's, complete; there is no way back
from a stage but the end of the sequence. -/
def Obligations.TransmitterTransitions : Prop :=
  ∀ (i : Instr) (s t : State), (∀ tag, i ≠ .init tag) → exec i s = .next t →
    t.tx.progress = s.tx.progress ∨
    (s.tx.progress = .idle ∧ t.tx.progress = .unlockPending ∧ (issued i).isSome = true ∧ t.tx.ts = s.tx.ts) ∨
    (isTransmit i = true ∧
      (s.tx.progress = .unlockPending ∧ t.tx.progress = .unlockSent ∨
        s.tx.progress = .unlockSent ∧ t.tx.progress = .commandSent ∨
        s.tx.progress = .commandSent ∧ t.tx.progress = .idle ∧ t.tx.ts = s.tx.ts))

/-- 10_state.md section 4 and 20_memory.md section 5: while a command is in flight nothing but INIT changes its five bytes, over
any sequence of events that does not end the sequence on the way. -/
def Obligations.StoredCommandIsKept : Prop :=
  ∀ (is : List Instr) (s t : State), s.tx.progress ≠ .idle → NoInit is → takeEvents is s = .next t →
    (∀ k u, takeEvents (is.take k) s = .next u → u.tx.progress ≠ .idle) → t.tx.frame = s.tx.frame

/-- 42_command_transmitter.md R195: an issued command driven three times, at least 10 ticks apart (0, 10, 20 for example),
makes exactly two transmissions in order, the unlock frame and the exact command frame, with the send timestamps the two
ticks, and is back in Idle after the third; the receiver and SensorState are as before. -/
def Obligations.UnlockThenCommandThenIdle : Prop :=
  ∀ (reg : Byte) (val : Half) (t0 t1 t2 : Tick) (s : State), s.initialised = true → s.tx.progress = .idle →
    10 ≤ ticksBetween t1 t0 → 10 ≤ ticksBetween t2 t1 →
    ∃ a b c : State,
      takeEvents [.issue reg val, .drive t0] s = .next a ∧ a.tx.progress = .unlockSent ∧ a.tx.ts = t0 ∧
      a.trace = s.trace ++ [.status .ok, .tx #v[0xFF, 0xAA, 0x69, 0x88, 0xB5]] ∧
      takeEvents [.drive t1] a = .next b ∧ b.tx.progress = .commandSent ∧ b.tx.ts = t1 ∧
      b.trace = a.trace ++ [.tx #v[0xFF, 0xAA, reg, BitVec.ofNat 8 val.toNat, BitVec.ofNat 8 (val.toNat / 256)]] ∧
      takeEvents [.drive t2] b = .next c ∧ c.tx.progress = .idle ∧ c.trace = b.trace ∧
      takeEvents [.issue reg val, .drive t0, .drive t1, .drive t2] s = .next c ∧ c.rx = s.rx ∧ c.sensor = s.sensor

/-- 42_command_transmitter.md section 4: any number of DRIVE calls before a window has elapsed are harmless. -/
def Obligations.EarlyDrivesAreHarmless : Prop :=
  ∀ (ticks : List Tick) (s : State), s.initialised = true → s.tx.progress = .unlockSent ∨ s.tx.progress = .commandSent →
    (∀ now ∈ ticks, ticksBetween now s.tx.ts < 10) →
    takeEvents (ticks.map .drive) s = .next { s with tickIn := ticks.getLast?.getD s.tickIn }

/-- 20_memory.md section 5: between two INITs the output follows the protocol: after each accepted command exactly one unlock
frame and then exactly one command frame, before the next command is accepted. -/
def Obligations.TraceFollowsProtocol : Prop :=
  ∀ (is : List Instr) (s t : State), CommandHasHeader s → NoInit is → takeEvents is s = .next t →
    ∃ acts : List Action, t.trace = s.trace ++ acts ∧ (protocolOf s).after acts = some (protocolOf t)

/-! ## The watchdog -/

/-- 44_watchdog.md section 1 (D3): CHECKWATCHDOG restarts reception exactly when more than 100 ticks have passed since the last valid
frame and at least 100 since the previous restart; the restart resets the cursor, emits one rx_arm and records the tick, and
nothing else changes; otherwise nothing happens. -/
def Obligations.WatchdogRestartsExactlyWhenDue : Prop :=
  ∀ (now : Tick) (s : State), s.initialised = true →
    exec (.checkWatchdog now) s = .next
      (if 100 < ticksBetween now s.sensor.lastFrameTs ∧ 100 ≤ ticksBetween now s.wdRestartTs then
        { s with rx := { s.rx with cursor := 0 }, wdRestartTs := now, trace := s.trace ++ [.rxArm] }
      else s)

/-- 44_watchdog.md section 2: after a restart at tick `now`, no CHECKWATCHDOG within the next 100 ticks restarts again, whatever
other events but INIT come between: the restart tick is still `now`, and one more check changes nothing. -/
def Obligations.RestartsAreSpaced : Prop :=
  ∀ (is : List Instr) (now later : Tick) (s t : State), s.initialised = true → s.wdRestartTs = now → NoInit is →
    (∀ i ∈ is, ∀ n, i = .checkWatchdog n → ticksBetween n now < 100) → takeEvents is s = .next t →
    t.wdRestartTs = now ∧ (ticksBetween later now < 100 → exec (.checkWatchdog later) t = .next t)

/-! ## The whole block -/

/-- 10_state.md section 6: which registers each event may write. No event but RXBYTE (or a frame row, log 6) and INIT writes
SensorState or `angle_ts`; CHECKWATCHDOG writes only `rx_cursor` and `wd_restart_ts`; ISSUE and the wrappers only `cmd_frame`
and `tx_progress`; DRIVE (or an outbound row, log 8) only `tx_progress` and `tx_ts`; only INIT writes `cfg_tag`. -/
def Obligations.EachEventWritesOnlyItsRegisters : Prop :=
  ∀ (i : Instr) (s t : State), (∀ tag, i ≠ .init tag) → exec i s = .next t →
    t.cfgTag = s.cfgTag ∧
    (t.sensor = s.sensor ∧ t.angleTs = s.angleTs ∨ isFrame i = true ∨ ∃ tag b now, i = .rxByte tag b now) ∧
    (t.rx = s.rx ∨ (∃ now, i = .checkWatchdog now ∧ t.rx = { s.rx with cursor := t.rx.cursor }) ∨
      ∃ tag b now, i = .rxByte tag b now) ∧
    (t.tx = s.tx ∨ ((issued i).isSome = true ∧ t.tx.ts = s.tx.ts) ∨ (isTransmit i = true ∧ t.tx.frame = s.tx.frame)) ∧
    (t.wdRestartTs = s.wdRestartTs ∨ ∃ now, i = .checkWatchdog now)

/-- 60_exceptions.md section 1: the error classes and their effects: Busy is reported exactly in class E5 and nothing else is;
E1 changes nothing at all; E2 and E3 leave SensorState and `angle_ts`; E4 changes of them only the link timestamp. -/
def Obligations.ErrorClassEffects : Prop :=
  ∀ (i : Instr) (s t : State), exec i s = .next t →
    (∃ acts : List Action, t.trace = s.trace ++ acts ∧
      (Action.status .busy ∈ acts ↔ errorClass i s = some .busy)) ∧
    (errorClass i s = some .transportMismatch → t = s) ∧
    (errorClass i s = some .framingError ∨ errorClass i s = some .checksumFailure →
      t.sensor = s.sensor ∧ t.angleTs = s.angleTs) ∧
    (errorClass i s = some .unrecognisedType →
      t.sensor = { s.sensor with lastFrameTs := t.sensor.lastFrameTs } ∧ t.angleTs = s.angleTs)

/-- 60_exceptions.md section 4 and 70_reset_and_hazards.md section 3 (D2, D26): elapsed is the true count for any distance
below `2^32`, wrap or not, and a tick that runs backwards by `d` reads as `2^32 - d`. -/
def Obligations.ElapsedIsModular : Prop :=
  ∀ (t : Tick) (d : Nat), d < 2 ^ 32 →
    (elapsed (t + BitVec.ofNat 32 d) t).toNat = d ∧
    (d ≠ 0 → (elapsed (t - BitVec.ofNat 32 d) t).toNat = 2 ^ 32 - d)

/-- 41_frame_decode.md section 3: what a byte writes does not depend on any earlier frame but through `angle_ts`. From two
SensorStates, whatever they hold, the receiver and `angle_ts` come out equal, and each register of SensorState either takes
the same value in both or keeps its own in both. -/
def Obligations.DecodeIgnoresEarlierFrames : Prop :=
  ∀ (tag : Tag) (b : Byte) (now : Tick) (s s' t t' : State),
    s'.cfgTag = s.cfgTag → s'.rx = s.rx → s'.angleTs = s.angleTs →
    exec (.rxByte tag b now) s = .next t → exec (.rxByte tag b now) s' = .next t' →
    t'.rx = t.rx ∧ t'.angleTs = t.angleTs ∧
    (t'.sensor.accRaw = t.sensor.accRaw ∨
      t.sensor.accRaw = s.sensor.accRaw ∧ t'.sensor.accRaw = s'.sensor.accRaw) ∧
    (t'.sensor.gyroRaw = t.sensor.gyroRaw ∨
      t.sensor.gyroRaw = s.sensor.gyroRaw ∧ t'.sensor.gyroRaw = s'.sensor.gyroRaw) ∧
    (t'.sensor.angleRaw = t.sensor.angleRaw ∨
      t.sensor.angleRaw = s.sensor.angleRaw ∧ t'.sensor.angleRaw = s'.sensor.angleRaw) ∧
    (t'.sensor.magRaw = t.sensor.magRaw ∨
      t.sensor.magRaw = s.sensor.magRaw ∧ t'.sensor.magRaw = s'.sensor.magRaw) ∧
    (t'.sensor.tempRaw = t.sensor.tempRaw ∨
      t.sensor.tempRaw = s.sensor.tempRaw ∧ t'.sensor.tempRaw = s'.sensor.tempRaw) ∧
    (t'.sensor.voltRaw = t.sensor.voltRaw ∨
      t.sensor.voltRaw = s.sensor.voltRaw ∧ t'.sensor.voltRaw = s'.sensor.voltRaw) ∧
    (t'.sensor.version = t.sensor.version ∨
      t.sensor.version = s.sensor.version ∧ t'.sensor.version = s'.sensor.version) ∧
    (t'.sensor.lastFrameTs = t.sensor.lastFrameTs ∨
      t.sensor.lastFrameTs = s.sensor.lastFrameTs ∧ t'.sensor.lastFrameTs = s'.sensor.lastFrameTs) ∧
    (t'.sensor.anglePeriod = t.sensor.anglePeriod ∨
      t.sensor.anglePeriod = s.sensor.anglePeriod ∧ t'.sensor.anglePeriod = s'.sensor.anglePeriod) ∧
    (t'.sensor.echo = t.sensor.echo ∨
      t.sensor.echo = s.sensor.echo ∧ t'.sensor.echo = s'.sensor.echo)
end

