-- ==== Sys2Proof/Laws/Decode.lean ====
section
/-! SUPPORT. The field helpers of the decoder undo those of the encoder. -/

namespace Sys2Proof

/-- The two nibbles of a byte read back. -/
theorem nibbles_append : ∀ hi lo : BitVec 4, hiNibble (hi ++ lo) = hi ∧ loNibble (hi ++ lo) = lo := by decide

@[simp] theorem hiNibble_append (hi lo : BitVec 4) : hiNibble (hi ++ lo) = hi := (nibbles_append hi lo).1

@[simp] theorem loNibble_append (hi lo : BitVec 4) : loNibble (hi ++ lo) = lo := (nibbles_append hi lo).2

/-- A 16-bit field is its two bytes joined. -/
@[simp] theorem join16_byteOf (v : Half) : join16 (byteOf v 1) (byteOf v 0) = v := by
  simp only [join16, byteOf]
  rw [BitVec.extractLsb'_append_extractLsb'_eq_extractLsb' (by decide)]
  simp

/-- A 32-bit field is its four bytes joined. -/
@[simp] theorem join32_byteOf (v : BitVec 32) :
    join32 (byteOf v 3) (byteOf v 2) (byteOf v 1) (byteOf v 0) = v := by
  simp only [join32, byteOf]
  rw [BitVec.extractLsb'_append_extractLsb'_eq_extractLsb' (by decide),
    BitVec.extractLsb'_append_extractLsb'_eq_extractLsb' (by decide),
    BitVec.extractLsb'_append_extractLsb'_eq_extractLsb' (by decide)]
  simp

end Sys2Proof
end

