-- ==== Sys2Proof/Laws/State.lean ====
section
/-! SUPPORT. One lemma per field of State per named update: what the update does to that field. Each is true by `rfl` and a
simp lemma, so that no proof unfolds a record update. -/

namespace Sys2Proof.Machine

variable (s : State)

/-! ### emit -/

@[simp] theorem emit_cfgTag (a : Action) : (s.emit a).cfgTag = s.cfgTag := rfl
@[simp] theorem emit_rx (a : Action) : (s.emit a).rx = s.rx := rfl
@[simp] theorem emit_sensor (a : Action) : (s.emit a).sensor = s.sensor := rfl
@[simp] theorem emit_angleTs (a : Action) : (s.emit a).angleTs = s.angleTs := rfl
@[simp] theorem emit_tx (a : Action) : (s.emit a).tx = s.tx := rfl
@[simp] theorem emit_wdRestartTs (a : Action) : (s.emit a).wdRestartTs = s.wdRestartTs := rfl
@[simp] theorem emit_initialised (a : Action) : (s.emit a).initialised = s.initialised := rfl
@[simp] theorem emit_trace (a : Action) : (s.emit a).trace = s.trace ++ [a] := rfl
@[simp] theorem emit_tickIn (a : Action) : (s.emit a).tickIn = s.tickIn := rfl
@[simp] theorem emit_script (a : Action) : (s.emit a).script = s.script := rfl

/-! ### sampleTick -/

@[simp] theorem sampleTick_cfgTag (n : Option Tick) : (s.sampleTick n).cfgTag = s.cfgTag := rfl
@[simp] theorem sampleTick_rx (n : Option Tick) : (s.sampleTick n).rx = s.rx := rfl
@[simp] theorem sampleTick_sensor (n : Option Tick) : (s.sampleTick n).sensor = s.sensor := rfl
@[simp] theorem sampleTick_angleTs (n : Option Tick) : (s.sampleTick n).angleTs = s.angleTs := rfl
@[simp] theorem sampleTick_tx (n : Option Tick) : (s.sampleTick n).tx = s.tx := rfl
@[simp] theorem sampleTick_wdRestartTs (n : Option Tick) : (s.sampleTick n).wdRestartTs = s.wdRestartTs := rfl
@[simp] theorem sampleTick_initialised (n : Option Tick) : (s.sampleTick n).initialised = s.initialised := rfl
@[simp] theorem sampleTick_trace (n : Option Tick) : (s.sampleTick n).trace = s.trace := rfl
@[simp] theorem sampleTick_tickIn (n : Option Tick) : (s.sampleTick n).tickIn = n.getD s.tickIn := rfl
@[simp] theorem sampleTick_script (n : Option Tick) : (s.sampleTick n).script = s.script := rfl

/-! ### setRxLast -/

@[simp] theorem setRxLast_cfgTag (b : Byte) : (s.setRxLast b).cfgTag = s.cfgTag := rfl
@[simp] theorem setRxLast_rx (b : Byte) : (s.setRxLast b).rx = { s.rx with last := b } := rfl
@[simp] theorem setRxLast_sensor (b : Byte) : (s.setRxLast b).sensor = s.sensor := rfl
@[simp] theorem setRxLast_angleTs (b : Byte) : (s.setRxLast b).angleTs = s.angleTs := rfl
@[simp] theorem setRxLast_tx (b : Byte) : (s.setRxLast b).tx = s.tx := rfl
@[simp] theorem setRxLast_wdRestartTs (b : Byte) : (s.setRxLast b).wdRestartTs = s.wdRestartTs := rfl
@[simp] theorem setRxLast_initialised (b : Byte) : (s.setRxLast b).initialised = s.initialised := rfl
@[simp] theorem setRxLast_trace (b : Byte) : (s.setRxLast b).trace = s.trace := rfl
@[simp] theorem setRxLast_tickIn (b : Byte) : (s.setRxLast b).tickIn = s.tickIn := rfl
@[simp] theorem setRxLast_script (b : Byte) : (s.setRxLast b).script = s.script := rfl

/-! ### pushByte -/

@[simp] theorem pushByte_cfgTag (b : Byte) : (s.pushByte b).cfgTag = s.cfgTag := rfl
@[simp] theorem pushByte_rx (b : Byte) : (s.pushByte b).rx = { s.rx with buf := s.rx.buf.setIfInBounds s.rx.cursor.toNat b, cursor := s.rx.cursor + 1 } := rfl
@[simp] theorem pushByte_sensor (b : Byte) : (s.pushByte b).sensor = s.sensor := rfl
@[simp] theorem pushByte_angleTs (b : Byte) : (s.pushByte b).angleTs = s.angleTs := rfl
@[simp] theorem pushByte_tx (b : Byte) : (s.pushByte b).tx = s.tx := rfl
@[simp] theorem pushByte_wdRestartTs (b : Byte) : (s.pushByte b).wdRestartTs = s.wdRestartTs := rfl
@[simp] theorem pushByte_initialised (b : Byte) : (s.pushByte b).initialised = s.initialised := rfl
@[simp] theorem pushByte_trace (b : Byte) : (s.pushByte b).trace = s.trace := rfl
@[simp] theorem pushByte_tickIn (b : Byte) : (s.pushByte b).tickIn = s.tickIn := rfl
@[simp] theorem pushByte_script (b : Byte) : (s.pushByte b).script = s.script := rfl

/-! ### clearCursor -/

@[simp] theorem clearCursor_cfgTag : (s.clearCursor).cfgTag = s.cfgTag := rfl
@[simp] theorem clearCursor_rx : (s.clearCursor).rx = { s.rx with cursor := 0 } := rfl
@[simp] theorem clearCursor_sensor : (s.clearCursor).sensor = s.sensor := rfl
@[simp] theorem clearCursor_angleTs : (s.clearCursor).angleTs = s.angleTs := rfl
@[simp] theorem clearCursor_tx : (s.clearCursor).tx = s.tx := rfl
@[simp] theorem clearCursor_wdRestartTs : (s.clearCursor).wdRestartTs = s.wdRestartTs := rfl
@[simp] theorem clearCursor_initialised : (s.clearCursor).initialised = s.initialised := rfl
@[simp] theorem clearCursor_trace : (s.clearCursor).trace = s.trace := rfl
@[simp] theorem clearCursor_tickIn : (s.clearCursor).tickIn = s.tickIn := rfl
@[simp] theorem clearCursor_script : (s.clearCursor).script = s.script := rfl

/-! ### stampLink -/

@[simp] theorem stampLink_cfgTag (now : Tick) : (s.stampLink now).cfgTag = s.cfgTag := rfl
@[simp] theorem stampLink_rx (now : Tick) : (s.stampLink now).rx = s.rx := rfl
@[simp] theorem stampLink_sensor (now : Tick) : (s.stampLink now).sensor = { s.sensor with lastFrameTs := now } := rfl
@[simp] theorem stampLink_angleTs (now : Tick) : (s.stampLink now).angleTs = s.angleTs := rfl
@[simp] theorem stampLink_tx (now : Tick) : (s.stampLink now).tx = s.tx := rfl
@[simp] theorem stampLink_wdRestartTs (now : Tick) : (s.stampLink now).wdRestartTs = s.wdRestartTs := rfl
@[simp] theorem stampLink_initialised (now : Tick) : (s.stampLink now).initialised = s.initialised := rfl
@[simp] theorem stampLink_trace (now : Tick) : (s.stampLink now).trace = s.trace := rfl
@[simp] theorem stampLink_tickIn (now : Tick) : (s.stampLink now).tickIn = s.tickIn := rfl
@[simp] theorem stampLink_script (now : Tick) : (s.stampLink now).script = s.script := rfl

/-! ### storeCommand -/

@[simp] theorem storeCommand_cfgTag (reg : Byte) (val : Half) : (s.storeCommand reg val).cfgTag = s.cfgTag := rfl
@[simp] theorem storeCommand_rx (reg : Byte) (val : Half) : (s.storeCommand reg val).rx = s.rx := rfl
@[simp] theorem storeCommand_sensor (reg : Byte) (val : Half) : (s.storeCommand reg val).sensor = s.sensor := rfl
@[simp] theorem storeCommand_angleTs (reg : Byte) (val : Half) : (s.storeCommand reg val).angleTs = s.angleTs := rfl
@[simp] theorem storeCommand_tx (reg : Byte) (val : Half) : (s.storeCommand reg val).tx = { s.tx with frame := commandFrame reg val, progress := .unlockPending } := rfl
@[simp] theorem storeCommand_wdRestartTs (reg : Byte) (val : Half) : (s.storeCommand reg val).wdRestartTs = s.wdRestartTs := rfl
@[simp] theorem storeCommand_initialised (reg : Byte) (val : Half) : (s.storeCommand reg val).initialised = s.initialised := rfl
@[simp] theorem storeCommand_trace (reg : Byte) (val : Half) : (s.storeCommand reg val).trace = s.trace := rfl
@[simp] theorem storeCommand_tickIn (reg : Byte) (val : Half) : (s.storeCommand reg val).tickIn = s.tickIn := rfl
@[simp] theorem storeCommand_script (reg : Byte) (val : Half) : (s.storeCommand reg val).script = s.script := rfl

/-! ### popScript -/

@[simp] theorem popScript_cfgTag : (s.popScript).cfgTag = s.cfgTag := rfl
@[simp] theorem popScript_rx : (s.popScript).rx = s.rx := rfl
@[simp] theorem popScript_sensor : (s.popScript).sensor = s.sensor := rfl
@[simp] theorem popScript_angleTs : (s.popScript).angleTs = s.angleTs := rfl
@[simp] theorem popScript_tx : (s.popScript).tx = s.tx := rfl
@[simp] theorem popScript_wdRestartTs : (s.popScript).wdRestartTs = s.wdRestartTs := rfl
@[simp] theorem popScript_initialised : (s.popScript).initialised = s.initialised := rfl
@[simp] theorem popScript_trace : (s.popScript).trace = s.trace := rfl
@[simp] theorem popScript_tickIn : (s.popScript).tickIn = s.tickIn := rfl
@[simp] theorem popScript_script : (s.popScript).script = s.script.tail := rfl

/-! ### pushScript -/

@[simp] theorem pushScript_cfgTag (w : List Byte) : (s.pushScript w).cfgTag = s.cfgTag := rfl
@[simp] theorem pushScript_rx (w : List Byte) : (s.pushScript w).rx = s.rx := rfl
@[simp] theorem pushScript_sensor (w : List Byte) : (s.pushScript w).sensor = s.sensor := rfl
@[simp] theorem pushScript_angleTs (w : List Byte) : (s.pushScript w).angleTs = s.angleTs := rfl
@[simp] theorem pushScript_tx (w : List Byte) : (s.pushScript w).tx = s.tx := rfl
@[simp] theorem pushScript_wdRestartTs (w : List Byte) : (s.pushScript w).wdRestartTs = s.wdRestartTs := rfl
@[simp] theorem pushScript_initialised (w : List Byte) : (s.pushScript w).initialised = s.initialised := rfl
@[simp] theorem pushScript_trace (w : List Byte) : (s.pushScript w).trace = s.trace := rfl
@[simp] theorem pushScript_tickIn (w : List Byte) : (s.pushScript w).tickIn = s.tickIn := rfl
@[simp] theorem pushScript_script (w : List Byte) : (s.pushScript w).script = w :: s.script := rfl

/-! ### initialise -/

@[simp] theorem initialise_cfgTag (tag : Tag) : (initialise tag s).cfgTag = tag := rfl
@[simp] theorem initialise_rx (tag : Tag) : (initialise tag s).rx = .reset := rfl
@[simp] theorem initialise_sensor (tag : Tag) : (initialise tag s).sensor = .reset := rfl
@[simp] theorem initialise_angleTs (tag : Tag) : (initialise tag s).angleTs = 0 := rfl
@[simp] theorem initialise_tx (tag : Tag) : (initialise tag s).tx = .reset := rfl
@[simp] theorem initialise_wdRestartTs (tag : Tag) : (initialise tag s).wdRestartTs = 0 := rfl
@[simp] theorem initialise_initialised (tag : Tag) : (initialise tag s).initialised = true := rfl
@[simp] theorem initialise_trace (tag : Tag) : (initialise tag s).trace = s.trace ++ [.rxArm] := rfl
@[simp] theorem initialise_tickIn (tag : Tag) : (initialise tag s).tickIn = s.tickIn := rfl
@[simp] theorem initialise_script (tag : Tag) : (initialise tag s).script = s.script := rfl

/-! ### decodeAcc -/

@[simp] theorem decodeAcc_cfgTag (buf : Vector Byte Config.RX_LEN) : (decodeAcc buf s).cfgTag = s.cfgTag := rfl
@[simp] theorem decodeAcc_rx (buf : Vector Byte Config.RX_LEN) : (decodeAcc buf s).rx = s.rx := rfl
@[simp] theorem decodeAcc_sensor (buf : Vector Byte Config.RX_LEN) : (decodeAcc buf s).sensor = { s.sensor with accRaw := axesOf buf, tempRaw := field3 buf } := rfl
@[simp] theorem decodeAcc_angleTs (buf : Vector Byte Config.RX_LEN) : (decodeAcc buf s).angleTs = s.angleTs := rfl
@[simp] theorem decodeAcc_tx (buf : Vector Byte Config.RX_LEN) : (decodeAcc buf s).tx = s.tx := rfl
@[simp] theorem decodeAcc_wdRestartTs (buf : Vector Byte Config.RX_LEN) : (decodeAcc buf s).wdRestartTs = s.wdRestartTs := rfl
@[simp] theorem decodeAcc_initialised (buf : Vector Byte Config.RX_LEN) : (decodeAcc buf s).initialised = s.initialised := rfl
@[simp] theorem decodeAcc_trace (buf : Vector Byte Config.RX_LEN) : (decodeAcc buf s).trace = s.trace := rfl
@[simp] theorem decodeAcc_tickIn (buf : Vector Byte Config.RX_LEN) : (decodeAcc buf s).tickIn = s.tickIn := rfl
@[simp] theorem decodeAcc_script (buf : Vector Byte Config.RX_LEN) : (decodeAcc buf s).script = s.script := rfl

/-! ### decodeGyro -/

@[simp] theorem decodeGyro_cfgTag (buf : Vector Byte Config.RX_LEN) : (decodeGyro buf s).cfgTag = s.cfgTag := rfl
@[simp] theorem decodeGyro_rx (buf : Vector Byte Config.RX_LEN) : (decodeGyro buf s).rx = s.rx := rfl
@[simp] theorem decodeGyro_sensor (buf : Vector Byte Config.RX_LEN) : (decodeGyro buf s).sensor = { s.sensor with gyroRaw := axesOf buf, voltRaw := field3 buf } := rfl
@[simp] theorem decodeGyro_angleTs (buf : Vector Byte Config.RX_LEN) : (decodeGyro buf s).angleTs = s.angleTs := rfl
@[simp] theorem decodeGyro_tx (buf : Vector Byte Config.RX_LEN) : (decodeGyro buf s).tx = s.tx := rfl
@[simp] theorem decodeGyro_wdRestartTs (buf : Vector Byte Config.RX_LEN) : (decodeGyro buf s).wdRestartTs = s.wdRestartTs := rfl
@[simp] theorem decodeGyro_initialised (buf : Vector Byte Config.RX_LEN) : (decodeGyro buf s).initialised = s.initialised := rfl
@[simp] theorem decodeGyro_trace (buf : Vector Byte Config.RX_LEN) : (decodeGyro buf s).trace = s.trace := rfl
@[simp] theorem decodeGyro_tickIn (buf : Vector Byte Config.RX_LEN) : (decodeGyro buf s).tickIn = s.tickIn := rfl
@[simp] theorem decodeGyro_script (buf : Vector Byte Config.RX_LEN) : (decodeGyro buf s).script = s.script := rfl

/-! ### decodeAngle -/

@[simp] theorem decodeAngle_cfgTag (buf : Vector Byte Config.RX_LEN) (now : Tick) : (decodeAngle buf now s).cfgTag = s.cfgTag := rfl
@[simp] theorem decodeAngle_rx (buf : Vector Byte Config.RX_LEN) (now : Tick) : (decodeAngle buf now s).rx = s.rx := rfl
@[simp] theorem decodeAngle_sensor (buf : Vector Byte Config.RX_LEN) (now : Tick) : (decodeAngle buf now s).sensor = { s.sensor with angleRaw := axesOf buf, version := field3 buf, anglePeriod := elapsed now s.angleTs } := rfl
@[simp] theorem decodeAngle_angleTs (buf : Vector Byte Config.RX_LEN) (now : Tick) : (decodeAngle buf now s).angleTs = now := rfl
@[simp] theorem decodeAngle_tx (buf : Vector Byte Config.RX_LEN) (now : Tick) : (decodeAngle buf now s).tx = s.tx := rfl
@[simp] theorem decodeAngle_wdRestartTs (buf : Vector Byte Config.RX_LEN) (now : Tick) : (decodeAngle buf now s).wdRestartTs = s.wdRestartTs := rfl
@[simp] theorem decodeAngle_initialised (buf : Vector Byte Config.RX_LEN) (now : Tick) : (decodeAngle buf now s).initialised = s.initialised := rfl
@[simp] theorem decodeAngle_trace (buf : Vector Byte Config.RX_LEN) (now : Tick) : (decodeAngle buf now s).trace = s.trace := rfl
@[simp] theorem decodeAngle_tickIn (buf : Vector Byte Config.RX_LEN) (now : Tick) : (decodeAngle buf now s).tickIn = s.tickIn := rfl
@[simp] theorem decodeAngle_script (buf : Vector Byte Config.RX_LEN) (now : Tick) : (decodeAngle buf now s).script = s.script := rfl

/-! ### decodeMag -/

@[simp] theorem decodeMag_cfgTag (buf : Vector Byte Config.RX_LEN) : (decodeMag buf s).cfgTag = s.cfgTag := rfl
@[simp] theorem decodeMag_rx (buf : Vector Byte Config.RX_LEN) : (decodeMag buf s).rx = s.rx := rfl
@[simp] theorem decodeMag_sensor (buf : Vector Byte Config.RX_LEN) : (decodeMag buf s).sensor = { s.sensor with magRaw := axesOf buf, tempRaw := field3 buf } := rfl
@[simp] theorem decodeMag_angleTs (buf : Vector Byte Config.RX_LEN) : (decodeMag buf s).angleTs = s.angleTs := rfl
@[simp] theorem decodeMag_tx (buf : Vector Byte Config.RX_LEN) : (decodeMag buf s).tx = s.tx := rfl
@[simp] theorem decodeMag_wdRestartTs (buf : Vector Byte Config.RX_LEN) : (decodeMag buf s).wdRestartTs = s.wdRestartTs := rfl
@[simp] theorem decodeMag_initialised (buf : Vector Byte Config.RX_LEN) : (decodeMag buf s).initialised = s.initialised := rfl
@[simp] theorem decodeMag_trace (buf : Vector Byte Config.RX_LEN) : (decodeMag buf s).trace = s.trace := rfl
@[simp] theorem decodeMag_tickIn (buf : Vector Byte Config.RX_LEN) : (decodeMag buf s).tickIn = s.tickIn := rfl
@[simp] theorem decodeMag_script (buf : Vector Byte Config.RX_LEN) : (decodeMag buf s).script = s.script := rfl

/-! ### decodeEcho -/

@[simp] theorem decodeEcho_cfgTag (buf : Vector Byte Config.RX_LEN) : (decodeEcho buf s).cfgTag = s.cfgTag := rfl
@[simp] theorem decodeEcho_rx (buf : Vector Byte Config.RX_LEN) : (decodeEcho buf s).rx = s.rx := rfl
@[simp] theorem decodeEcho_sensor (buf : Vector Byte Config.RX_LEN) : (decodeEcho buf s).sensor = { s.sensor with echo := buf } := rfl
@[simp] theorem decodeEcho_angleTs (buf : Vector Byte Config.RX_LEN) : (decodeEcho buf s).angleTs = s.angleTs := rfl
@[simp] theorem decodeEcho_tx (buf : Vector Byte Config.RX_LEN) : (decodeEcho buf s).tx = s.tx := rfl
@[simp] theorem decodeEcho_wdRestartTs (buf : Vector Byte Config.RX_LEN) : (decodeEcho buf s).wdRestartTs = s.wdRestartTs := rfl
@[simp] theorem decodeEcho_initialised (buf : Vector Byte Config.RX_LEN) : (decodeEcho buf s).initialised = s.initialised := rfl
@[simp] theorem decodeEcho_trace (buf : Vector Byte Config.RX_LEN) : (decodeEcho buf s).trace = s.trace := rfl
@[simp] theorem decodeEcho_tickIn (buf : Vector Byte Config.RX_LEN) : (decodeEcho buf s).tickIn = s.tickIn := rfl
@[simp] theorem decodeEcho_script (buf : Vector Byte Config.RX_LEN) : (decodeEcho buf s).script = s.script := rfl

/-! ### sendUnlock -/

@[simp] theorem sendUnlock_cfgTag (now : Tick) : (sendUnlock now s).cfgTag = s.cfgTag := rfl
@[simp] theorem sendUnlock_rx (now : Tick) : (sendUnlock now s).rx = s.rx := rfl
@[simp] theorem sendUnlock_sensor (now : Tick) : (sendUnlock now s).sensor = s.sensor := rfl
@[simp] theorem sendUnlock_angleTs (now : Tick) : (sendUnlock now s).angleTs = s.angleTs := rfl
@[simp] theorem sendUnlock_tx (now : Tick) : (sendUnlock now s).tx = { s.tx with ts := now, progress := .unlockSent } := rfl
@[simp] theorem sendUnlock_wdRestartTs (now : Tick) : (sendUnlock now s).wdRestartTs = s.wdRestartTs := rfl
@[simp] theorem sendUnlock_initialised (now : Tick) : (sendUnlock now s).initialised = s.initialised := rfl
@[simp] theorem sendUnlock_trace (now : Tick) : (sendUnlock now s).trace = s.trace ++ [.tx Config.UNLOCK] := rfl
@[simp] theorem sendUnlock_tickIn (now : Tick) : (sendUnlock now s).tickIn = s.tickIn := rfl
@[simp] theorem sendUnlock_script (now : Tick) : (sendUnlock now s).script = s.script := rfl

/-! ### sendCommand -/

@[simp] theorem sendCommand_cfgTag (now : Tick) : (sendCommand now s).cfgTag = s.cfgTag := rfl
@[simp] theorem sendCommand_rx (now : Tick) : (sendCommand now s).rx = s.rx := rfl
@[simp] theorem sendCommand_sensor (now : Tick) : (sendCommand now s).sensor = s.sensor := rfl
@[simp] theorem sendCommand_angleTs (now : Tick) : (sendCommand now s).angleTs = s.angleTs := rfl
@[simp] theorem sendCommand_tx (now : Tick) : (sendCommand now s).tx = { s.tx with ts := now, progress := .commandSent } := rfl
@[simp] theorem sendCommand_wdRestartTs (now : Tick) : (sendCommand now s).wdRestartTs = s.wdRestartTs := rfl
@[simp] theorem sendCommand_initialised (now : Tick) : (sendCommand now s).initialised = s.initialised := rfl
@[simp] theorem sendCommand_trace (now : Tick) : (sendCommand now s).trace = s.trace ++ [.tx s.tx.frame] := rfl
@[simp] theorem sendCommand_tickIn (now : Tick) : (sendCommand now s).tickIn = s.tickIn := rfl
@[simp] theorem sendCommand_script (now : Tick) : (sendCommand now s).script = s.script := rfl

/-! ### finishCommand -/

@[simp] theorem finishCommand_cfgTag : (finishCommand s).cfgTag = s.cfgTag := rfl
@[simp] theorem finishCommand_rx : (finishCommand s).rx = s.rx := rfl
@[simp] theorem finishCommand_sensor : (finishCommand s).sensor = s.sensor := rfl
@[simp] theorem finishCommand_angleTs : (finishCommand s).angleTs = s.angleTs := rfl
@[simp] theorem finishCommand_tx : (finishCommand s).tx = { s.tx with progress := .idle } := rfl
@[simp] theorem finishCommand_wdRestartTs : (finishCommand s).wdRestartTs = s.wdRestartTs := rfl
@[simp] theorem finishCommand_initialised : (finishCommand s).initialised = s.initialised := rfl
@[simp] theorem finishCommand_trace : (finishCommand s).trace = s.trace := rfl
@[simp] theorem finishCommand_tickIn : (finishCommand s).tickIn = s.tickIn := rfl
@[simp] theorem finishCommand_script : (finishCommand s).script = s.script := rfl

/-! ### restartReception -/

@[simp] theorem restartReception_cfgTag (now : Tick) : (restartReception now s).cfgTag = s.cfgTag := rfl
@[simp] theorem restartReception_rx (now : Tick) : (restartReception now s).rx = { s.rx with cursor := 0 } := rfl
@[simp] theorem restartReception_sensor (now : Tick) : (restartReception now s).sensor = s.sensor := rfl
@[simp] theorem restartReception_angleTs (now : Tick) : (restartReception now s).angleTs = s.angleTs := rfl
@[simp] theorem restartReception_tx (now : Tick) : (restartReception now s).tx = s.tx := rfl
@[simp] theorem restartReception_wdRestartTs (now : Tick) : (restartReception now s).wdRestartTs = now := rfl
@[simp] theorem restartReception_initialised (now : Tick) : (restartReception now s).initialised = s.initialised := rfl
@[simp] theorem restartReception_trace (now : Tick) : (restartReception now s).trace = s.trace ++ [.rxArm] := rfl
@[simp] theorem restartReception_tickIn (now : Tick) : (restartReception now s).tickIn = s.tickIn := rfl
@[simp] theorem restartReception_script (now : Tick) : (restartReception now s).script = s.script := rfl

/-! ### The reset state -/

@[simp] theorem reset_initialised : State.reset.initialised = true := rfl
@[simp] theorem reset_script : State.reset.script = [] := rfl
@[simp] theorem decodeOther_eq : decodeOther s = s := rfl

end Sys2Proof.Machine
end

