-- ==== Sys2Proof/Laws/Ops.lean ====
section
/-! SUPPORT. What each shared operation can do, said once: the lemmas a proof cites instead of unfolding the operation. -/

namespace Sys2Proof.Machine

/-! ## Operand forms -/

theorem u8_toNat (v : Nat) : (u8 v).toNat = v % 256 := by simp [u8]

/-- `pair` puts the second byte above the first (00_scope.md R14). -/
theorem pair_eq_append (lo hi : Byte) : pair lo hi = hi ++ lo := by
  apply BitVec.eq_of_getLsbD_eq
  intro i hi'
  simp only [pair, BitVec.getLsbD_or, BitVec.getLsbD_shiftLeft, BitVec.getLsbD_setWidth, BitVec.getLsbD_append]
  by_cases h : i < 8
  · simp [h, hi']
  · have h' : lo.getLsbD i = false := BitVec.getLsbD_of_ge _ _ (by omega)
    have h'' : i - 8 < 16 := by omega
    simp [h, hi', h', h'']

theorem pair_toNat (lo hi : Byte) : (pair lo hi).toNat = 256 * hi.toNat + lo.toNat := by
  have h := lo.isLt
  rw [pair_eq_append, BitVec.toNat_append, ← Nat.shiftLeft_add_eq_or_of_lt h, Nat.shiftLeft_eq]
  omega

/-- The signed value of a raw register is its two's complement value. -/
theorem s16_eq_toInt (v : Half) : s16 v = v.toInt := by
  have h := v.isLt
  rw [s16, BitVec.toInt_eq_toNat_cond]
  split <;> split <;> omega

/-- The truncating sum, as a number (40_frame_receiver.md R125). -/
theorem sum8_toNat (b0 b1 b2 b3 b4 b5 b6 b7 b8 b9 b10 : Byte) :
    (sum8 #v[b0, b1, b2, b3, b4, b5, b6, b7, b8, b9, b10]).toNat
      = (b0.toNat + b1.toNat + b2.toNat + b3.toNat + b4.toNat + b5.toNat + b6.toNat + b7.toNat + b8.toNat + b9.toNat)
        % 256 := by
  simp only [sum8, u8, BitVec.toNat_ofNat, Vector.toList_mk, List.take_succ_cons, List.take_zero, List.map_cons,
    List.map_nil, List.sum_cons, List.sum_nil]
  congr 1
  omega

theorem elapsed_self (t : Tick) : elapsed t t = 0 := by simp [elapsed]

theorem elapsed_toNat (now t : Tick) : (elapsed now t).toNat = (2 ^ 32 - t.toNat + now.toNat) % 2 ^ 32 := by
  exact BitVec.toNat_sub now t

/-! ## The phase before INIT -/

/-- An operation that answers a next state has been applied after an INIT, and the next state is the one given. -/
theorem afterInit_eq_next {s t u : State} (h : afterInit s t = .next u) : s.initialised = true ∧ u = t := by
  unfold afterInit at h
  split at h
  · exact ⟨‹_›, by cases h; rfl⟩
  · cases h

@[simp] theorem afterInit_of_initialised {s : State} (t : State) (h : s.initialised = true) :
    afterInit s t = .next t := by simp [afterInit, h]

/-! ## Receiver and decode -/

/-- Validation either runs the decode arm and stamps the link, or changes nothing (R125, R127, R129). -/
theorem acceptFrame_cases (buf : Vector Byte Config.RX_LEN) (now : Tick) (arm : State → State) (s : State) :
    (frameValid buf = true ∧ acceptFrame buf now arm s = (arm s).stampLink now) ∨
      (frameValid buf = false ∧ acceptFrame buf now arm s = s) := by
  cases h : frameValid buf <;> simp [acceptFrame, h]

/-- The decode of a frame runs one of six arms, chosen by the type code (R151). -/
theorem decodeByType_cases (buf : Vector Byte Config.RX_LEN) (now : Tick) (s : State) :
    decodeByType buf now s = decodeAcc buf s ∨ decodeByType buf now s = decodeGyro buf s ∨
      decodeByType buf now s = decodeAngle buf now s ∨ decodeByType buf now s = decodeMag buf s ∨
      (buf[1] = Config.TYPE_ECHO ∧ decodeByType buf now s = decodeEcho buf s) ∨ decodeByType buf now s = s := by
  unfold decodeByType
  repeat' split
  all_goals simp_all

/-- The decode touches SensorState and `angle_ts` only (R53, R158). -/
theorem decodeByType_frame (buf : Vector Byte Config.RX_LEN) (now : Tick) (s : State) :
    ∃ r a, decodeByType buf now s = { s with sensor := r, angleTs := a } := by
  rcases decodeByType_cases buf now s with h | h | h | h | ⟨-, h⟩ | h <;> rw [h] <;> exact ⟨_, _, rfl⟩

/-- The frame is ready at a cursor of 11 (R25). -/
theorem frameComplete_iff (s : State) : frameComplete s = true ↔ s.rx.cursor = 11 := by
  rw [frameComplete, beq_iff_eq, ← BitVec.toNat_inj]
  exact Iff.rfl

/-- A received byte is stored; the eleventh also resets the cursor and may write SensorState and `angle_ts` (R123, R124). -/
theorem receiveByte_frame (b : Byte) (now : Tick) (s : State) :
    ∃ r a c, receiveByte b now s =
      { s with
        rx := { s.rx with buf := s.rx.buf.setIfInBounds s.rx.cursor.toNat b, cursor := c }
        sensor := r
        angleTs := a } := by
  unfold receiveByte
  by_cases h : frameComplete (s.pushByte b) = true
  · simp only [h, if_true, frameReady]
    rcases acceptFrame_cases (s.pushByte b).rx.buf now (decodeByType (s.pushByte b).rx.buf now) (s.pushByte b).clearCursor
      with ⟨-, e⟩ | ⟨-, e⟩
    · obtain ⟨r, a, e'⟩ := decodeByType_frame (s.pushByte b).rx.buf now (s.pushByte b).clearCursor
      exact ⟨_, _, _, by rw [e, e']; rfl⟩
    · exact ⟨_, _, _, by rw [e]; rfl⟩
  · simp only [h]
    exact ⟨_, _, _, rfl⟩

/-- RXBYTE after INIT ignores the byte, discards it, or receives it (R121 to R123). -/
theorem rxByte_cases (tag : Tag) (b : Byte) (now : Tick) (s : State) :
    (tag ≠ s.cfgTag ∧ rxByte tag b now s = s) ∨
      (tag = s.cfgTag ∧ s.rx.cursor = 0 ∧ b ≠ 0x55 ∧ rxByte tag b now s = (s.setRxLast b).emit .rxArm) ∨
      (tag = s.cfgTag ∧ (s.rx.cursor ≠ 0 ∨ b = 0x55) ∧
        rxByte tag b now s = (receiveByte b now (s.setRxLast b)).emit .rxArm) := by
  by_cases h : tag = s.cfgTag
  · by_cases hd : awaitingSync (s.setRxLast b) ∧ b ≠ Config.SYNC
    · exact .inr (.inl ⟨h, by simpa [awaitingSync] using hd.1, hd.2, by simp only [rxByte, h, ne_eq, not_true, if_false, hd,
        and_self, if_true, not_false_eq_true]⟩)
    · refine .inr (.inr ⟨h, ?_, by simp only [rxByte, h, ne_eq, not_true, if_false]; exact if_neg hd⟩)
      rw [not_and_or] at hd
      exact hd.imp (by simp [awaitingSync]) not_not.mp
  · exact .inl ⟨h, by simp only [rxByte, ne_eq, h, not_false_eq_true, if_true]⟩

/-! ## Transmitter and watchdog -/

/-- ISSUE after INIT is refused with `Busy`, or stores the command and answers `Ok` (R180 to R182). -/
theorem issueCommand_cases (reg : Byte) (val : Half) (s : State) :
    (s.tx.progress ≠ .idle ∧ issueCommand reg val s = s.emit (.status .busy)) ∨
      (s.tx.progress = .idle ∧ issueCommand reg val s = (s.storeCommand reg val).emit (.status .ok)) := by
  unfold issueCommand busy
  by_cases h : s.tx.progress = .idle <;> simp [h]

/-- DRIVE after INIT makes one of three transitions or none (R185 to R189). -/
theorem drive_cases (now : Tick) (s : State) :
    drive now s = s ∨ (s.tx.progress = .unlockPending ∧ drive now s = sendUnlock now s) ∨
      (s.tx.progress = .unlockSent ∧ 10 ≤ elapsed now s.tx.ts ∧ drive now s = sendCommand now s) ∨
      (s.tx.progress = .commandSent ∧ 10 ≤ elapsed now s.tx.ts ∧ drive now s = finishCommand s) := by
  unfold drive gapElapsed
  cases h : s.tx.progress <;> by_cases hg : Config.T_GAP ≤ elapsed now s.tx.ts <;> simp_all

/-- CHECKWATCHDOG after INIT restarts reception when both conditions hold, else does nothing (R230, R234). -/
theorem checkWatchdog_cases (now : Tick) (s : State) :
    (100 < elapsed now s.sensor.lastFrameTs ∧ 100 ≤ elapsed now s.wdRestartTs ∧
        checkWatchdog now s = restartReception now s) ∨
      (¬ (100 < elapsed now s.sensor.lastFrameTs ∧ 100 ≤ elapsed now s.wdRestartTs) ∧ checkWatchdog now s = s) := by
  unfold checkWatchdog stale restartDue
  by_cases h1 : Config.T_STALE < elapsed now s.sensor.lastFrameTs <;>
    by_cases h2 : Config.T_RESTART ≤ elapsed now s.wdRestartTs <;> simp_all

/-! ## Events -/

@[simp] theorem takeEvents_nil (s : State) : takeEvents [] s = .next s := rfl

theorem takeEvents_cons_next {i : Instr} {is : List Instr} {s t : State} (h : takeEvent i s = .next t) :
    takeEvents (i :: is) s = takeEvents is t := by simp [takeEvents, h]

/-- A run that answers a next state took its first event and then ran the rest. -/
theorem takeEvents_cons_cases {i : Instr} {is : List Instr} {s u : State} (h : takeEvents (i :: is) s = .next u) :
    ∃ t, takeEvent i s = .next t ∧ takeEvents is t = .next u := by
  unfold takeEvents at h
  split at h
  · exact ⟨_, ‹_›, h⟩
  · cases h
  · cases h

end Sys2Proof.Machine
end

