-- ==== Sys2Proof/Laws/Exec.lean ====
section
/-! SUPPORT. What `exec` can do, said once: where it answers a next state, that state is the instruction's effect, and the
block was initialised or the instruction is INIT. -/

namespace Sys2Proof.Machine

/-- The effect of an instruction on an initialised block, over the shared operations. -/
def effect (i : Instr) (s : State) : State :=
  match i with
  | .frameAcc d cs =>
    acceptFrame (frameBuffer Config.TYPE_ACC d cs) s.tickIn (decodeAcc (frameBuffer Config.TYPE_ACC d cs)) s
  | .frameGyro d cs =>
    acceptFrame (frameBuffer Config.TYPE_GYRO d cs) s.tickIn (decodeGyro (frameBuffer Config.TYPE_GYRO d cs)) s
  | .frameAngle d cs =>
    acceptFrame (frameBuffer Config.TYPE_ANGLE d cs) s.tickIn
      (decodeAngle (frameBuffer Config.TYPE_ANGLE d cs) s.tickIn) s
  | .frameMag d cs =>
    acceptFrame (frameBuffer Config.TYPE_MAG d cs) s.tickIn (decodeMag (frameBuffer Config.TYPE_MAG d cs)) s
  | .frameEcho d cs =>
    acceptFrame (frameBuffer Config.TYPE_ECHO d cs) s.tickIn (decodeEcho (frameBuffer Config.TYPE_ECHO d cs)) s
  | .frameOther type d cs => acceptFrame (frameBuffer type d cs) s.tickIn decodeOther s
  | .txUnlock => if emitsUnlock s then sendUnlock s.tickIn s else s
  | .txCommand reg valLo valHi =>
    if emitsCommand s.tickIn #v[Config.HDR0, Config.HDR1, reg, valLo, valHi] s then sendCommand s.tickIn s else s
  | .init tag => initialise tag s
  | .rxByte tag b now => rxByte tag b now s
  | .issue reg val => issueCommand reg val s
  | .drive now => drive now s
  | .checkWatchdog now => checkWatchdog now s
  | .save val => issueCommand Config.REG_SAVE val s
  | .calibrate val => issueCommand Config.REG_CALIBRATE val s
  | .setOutputContent mask => issueCommand Config.REG_OUTPUT_CONTENT mask s
  | .setOutputRate val => issueCommand Config.REG_OUTPUT_RATE val s
  | .setBaudRate val => issueCommand Config.REG_BAUD_RATE val s

theorem exec_eq_next {i : Instr} {s t : State} (h : exec i s = .next t) :
    t = effect i s ∧ ((∃ tag, i = .init tag) ∨ s.initialised = true) := by
  cases i
  case init => exact ⟨by cases h; rfl, .inl ⟨_, rfl⟩⟩
  all_goals
    have := afterInit_eq_next h
    exact ⟨this.2, .inr this.1⟩

end Sys2Proof.Machine
end

