-- ==== Sys2Proof/Laws/PerInstr.lean ====
section
/-! SUPPORT. Families of statements with one lemma per instruction. -/

namespace Sys2Proof.Laws

/-- Every encoding is fixed-length (30_encoding.md R98): 11 bytes for an inbound frame, 5 for an outbound one, 8 for an
event word, whatever the operands. -/
def EncodeLength.Statement (i : Instr) : Prop :=
  (encode i).length =
    match i with
    | .frameAcc _ _ => Config.RX_LEN
    | .frameGyro _ _ => Config.RX_LEN
    | .frameAngle _ _ => Config.RX_LEN
    | .frameMag _ _ => Config.RX_LEN
    | .frameEcho _ _ => Config.RX_LEN
    | .frameOther _ _ _ => Config.RX_LEN
    | .txUnlock => Config.TX_LEN
    | .txCommand _ _ _ => Config.TX_LEN
    | .init _ => 8
    | .rxByte _ _ _ => 8
    | .issue _ _ => 8
    | .drive _ => 8
    | .checkWatchdog _ => 8
    | .save _ => 8
    | .calibrate _ => 8
    | .setOutputContent _ => 8
    | .setOutputRate _ => 8
    | .setBaudRate _ => 8

theorem EncodeLength.frameAcc (d : Payload) (cs : Byte) : EncodeLength.Statement (.frameAcc d cs) := rfl
theorem EncodeLength.frameGyro (d : Payload) (cs : Byte) : EncodeLength.Statement (.frameGyro d cs) := rfl
theorem EncodeLength.frameAngle (d : Payload) (cs : Byte) : EncodeLength.Statement (.frameAngle d cs) := rfl
theorem EncodeLength.frameMag (d : Payload) (cs : Byte) : EncodeLength.Statement (.frameMag d cs) := rfl
theorem EncodeLength.frameEcho (d : Payload) (cs : Byte) : EncodeLength.Statement (.frameEcho d cs) := rfl
theorem EncodeLength.frameOther (type : Byte) (d : Payload) (cs : Byte) :
    EncodeLength.Statement (.frameOther type d cs) := rfl
theorem EncodeLength.txUnlock : EncodeLength.Statement .txUnlock := rfl
theorem EncodeLength.txCommand (reg valLo valHi : Byte) : EncodeLength.Statement (.txCommand reg valLo valHi) := rfl
theorem EncodeLength.init (tag : Tag) : EncodeLength.Statement (.init tag) := rfl
theorem EncodeLength.rxByte (tag : Tag) (b : Byte) (now : Tick) : EncodeLength.Statement (.rxByte tag b now) := rfl
theorem EncodeLength.issue (reg : Byte) (val : Half) : EncodeLength.Statement (.issue reg val) := rfl
theorem EncodeLength.drive (now : Tick) : EncodeLength.Statement (.drive now) := rfl
theorem EncodeLength.checkWatchdog (now : Tick) : EncodeLength.Statement (.checkWatchdog now) := rfl
theorem EncodeLength.save (val : Half) : EncodeLength.Statement (.save val) := rfl
theorem EncodeLength.calibrate (val : Half) : EncodeLength.Statement (.calibrate val) := rfl
theorem EncodeLength.setOutputContent (mask : Half) : EncodeLength.Statement (.setOutputContent mask) := rfl
theorem EncodeLength.setOutputRate (val : Half) : EncodeLength.Statement (.setOutputRate val) := rfl
theorem EncodeLength.setBaudRate (val : Half) : EncodeLength.Statement (.setBaudRate val) := rfl

end Sys2Proof.Laws
end

