-- ==== Sys2Proof/Laws/Runs.lean ====
section
/-! SUPPORT. The window tests as numbers, and one case split over everything an instruction other than INIT can do. -/

namespace Sys2Proof.Machine

open Sys2Proof.Safety

/-! ## Windows -/

theorem elapsed_toNat_eq_ticksBetween (now t : Tick) : (elapsed now t).toNat = ticksBetween now t := by
  have h := t.isLt
  have h' := now.isLt
  rw [elapsed_toNat, ticksBetween]
  congr 1
  simp only [Config.TICK_W] at *
  omega

theorem gapElapsed_iff (now : Tick) (s : State) : gapElapsed now s = true ↔ 10 ≤ ticksBetween now s.tx.ts := by
  rw [← elapsed_toNat_eq_ticksBetween]
  exact decide_eq_true_iff

theorem stale_iff (now : Tick) (s : State) : stale now s = true ↔ 100 < ticksBetween now s.sensor.lastFrameTs := by
  rw [← elapsed_toNat_eq_ticksBetween]
  exact decide_eq_true_iff

theorem restartDue_iff (now : Tick) (s : State) : restartDue now s = true ↔ 100 ≤ ticksBetween now s.wdRestartTs := by
  rw [← elapsed_toNat_eq_ticksBetween]
  exact decide_eq_true_iff

/-! ## Frames of the compound operations -/

/-- A frame's effect is confined to SensorState and `angle_ts` when its decode arm's is. -/
theorem acceptFrame_frame (buf : Vector Byte Config.RX_LEN) (now : Tick) (arm : State → State) (s : State)
    (h : ∃ r a, arm s = { s with sensor := r, angleTs := a }) :
    ∃ r a, acceptFrame buf now arm s = { s with sensor := r, angleTs := a } := by
  rcases acceptFrame_cases buf now arm s with ⟨-, e⟩ | ⟨-, e⟩
  · obtain ⟨r, a, e'⟩ := h
    exact ⟨_, _, by rw [e, e']; rfl⟩
  · exact ⟨_, _, e⟩

/-- An RXBYTE changes nothing, or only the ReceiveBuffer, SensorState, `angle_ts` and one `rx_arm`. -/
theorem rxByte_frame (tag : Tag) (b : Byte) (now : Tick) (s : State) :
    rxByte tag b now s = s ∨
      ∃ x r a, rxByte tag b now s = { s with rx := x, sensor := r, angleTs := a, trace := s.trace ++ [.rxArm] } := by
  rcases rxByte_cases tag b now s with ⟨-, e⟩ | ⟨-, -, -, e⟩ | ⟨-, -, e⟩
  · exact .inl e
  · exact .inr ⟨_, _, _, e⟩
  · obtain ⟨r, a, c, e'⟩ := receiveByte_frame b now (s.setRxLast b)
    exact .inr ⟨_, r, a, by rw [e, e']; rfl⟩

/-! ## Every instruction at once -/

/-- What an instruction other than INIT made of `s`. -/
inductive Change (i : Instr) (s t : State) : Prop
  | frame (hi : isFrame i = true) (r : SensorState) (a : Tick) (h : t = { s with sensor := r, angleTs := a })
  | byte (tag : Tag) (b : Byte) (now : Tick) (hi : i = .rxByte tag b now) (h : t = rxByte tag b now s)
  | busy (reg : Byte) (val : Half) (hi : issued i = some (reg, val)) (hp : s.tx.progress ≠ .idle)
      (h : t = s.emit (.status .busy))
  | accepted (reg : Byte) (val : Half) (hi : issued i = some (reg, val)) (hp : s.tx.progress = .idle)
      (h : t = (s.storeCommand reg val).emit (.status .ok))
  | waiting (hi : isTransmit i = true) (h : t = s)
  | unlock (now : Tick) (hi : isTransmit i = true) (hp : s.tx.progress = .unlockPending) (h : t = sendUnlock now s)
  | command (now : Tick) (hi : isTransmit i = true) (hp : s.tx.progress = .unlockSent) (h : t = sendCommand now s)
  | finished (hi : isTransmit i = true) (hp : s.tx.progress = .commandSent) (h : t = finishCommand s)
  | watchdog (now : Tick) (hi : i = .checkWatchdog now) (h : t = checkWatchdog now s)

theorem Change.of_issue {i : Instr} {s t : State} {reg : Byte} {val : Half} (hi : issued i = some (reg, val))
    (h : t = issueCommand reg val s) : Change i s t := by
  rcases issueCommand_cases reg val s with ⟨hp, e⟩ | ⟨hp, e⟩
  · exact .busy reg val hi hp (h.trans e)
  · exact .accepted reg val hi hp (h.trans e)

theorem Change.of_frame {i : Instr} {s t : State} (hi : isFrame i = true)
    (h : ∃ r a, t = { s with sensor := r, angleTs := a }) : Change i s t := by
  obtain ⟨r, a, e⟩ := h
  exact .frame hi r a e

/-- Where `exec` answers a next state for an instruction other than INIT, it made one of these changes. -/
theorem exec_change {i : Instr} {s t : State} (hi : ∀ tag, i ≠ .init tag) (h : exec i s = .next t) : Change i s t := by
  obtain ⟨rfl, -⟩ := exec_eq_next h
  cases i
  case init => exact absurd rfl (hi _)
  case rxByte => exact .byte _ _ _ rfl rfl
  case issue => exact .of_issue rfl rfl
  case save => exact .of_issue rfl rfl
  case calibrate => exact .of_issue rfl rfl
  case setOutputContent => exact .of_issue rfl rfl
  case setOutputRate => exact .of_issue rfl rfl
  case setBaudRate => exact .of_issue rfl rfl
  case checkWatchdog => exact .watchdog _ rfl rfl
  case drive now =>
    rcases drive_cases now s with e | ⟨hp, e⟩ | ⟨hp, -, e⟩ | ⟨hp, -, e⟩
    · exact .waiting rfl e
    · exact .unlock now rfl hp e
    · exact .command now rfl hp e
    · exact .finished rfl hp e
  case txUnlock =>
    by_cases c : emitsUnlock s
    · exact .unlock s.tickIn rfl (by simpa [emitsUnlock] using c) (by simp [effect, c])
    · exact .waiting rfl (by simp [effect, c])
  case txCommand reg valLo valHi =>
    by_cases c : emitsCommand s.tickIn #v[Config.HDR0, Config.HDR1, reg, valLo, valHi] s
    · have hp : s.tx.progress = .unlockSent := by
        simp only [emitsCommand, Bool.and_eq_true, beq_iff_eq] at c
        exact c.1.1
      exact .command s.tickIn rfl hp (if_pos c)
    · exact .waiting rfl (if_neg c)
  case frameAcc d cs =>
    exact .of_frame rfl (acceptFrame_frame _ s.tickIn (decodeAcc (frameBuffer Config.TYPE_ACC d cs)) s ⟨_, _, rfl⟩)
  case frameGyro d cs =>
    exact .of_frame rfl (acceptFrame_frame _ s.tickIn (decodeGyro (frameBuffer Config.TYPE_GYRO d cs)) s ⟨_, _, rfl⟩)
  case frameAngle d cs =>
    exact .of_frame rfl
      (acceptFrame_frame _ s.tickIn (decodeAngle (frameBuffer Config.TYPE_ANGLE d cs) s.tickIn) s ⟨_, _, rfl⟩)
  case frameMag d cs =>
    exact .of_frame rfl (acceptFrame_frame _ s.tickIn (decodeMag (frameBuffer Config.TYPE_MAG d cs)) s ⟨_, _, rfl⟩)
  case frameEcho d cs =>
    exact .of_frame rfl (acceptFrame_frame _ s.tickIn (decodeEcho (frameBuffer Config.TYPE_ECHO d cs)) s ⟨_, _, rfl⟩)
  case frameOther type d cs =>
    exact .of_frame rfl (acceptFrame_frame (frameBuffer type d cs) s.tickIn decodeOther s ⟨_, _, rfl⟩)

end Sys2Proof.Machine
end

