-- ==== Sys2Proof/Tests/Slice0.lean ====
section
/-! SUPPORT. Tests of one step each, and the witnesses of the statements. Expected results are the spec's vectors
(95_test_vectors.md, named V-..; worked by hand there) or the spec's encodings written out. -/

namespace Sys2Proof.Tests

open Sys2Proof Sys2Proof.Machine Sys2Proof.Safety

/-! ## Well-formedness: each check refuses an ill-formed term (30_encoding.md R105) -/

/-- The payload of vector V-DEC-1. -/
def accPayload : Payload := ⟨0x00, 0x40, 0x00, 0xF8, 0x01, 0x00, 0xC4, 0x09⟩

/-- The payload of vector V-DEC-2. -/
def gyroPayload : Payload := ⟨0x00, 0x80, 0xFF, 0x7F, 0x00, 0x40, 0x4A, 0x01⟩

/-- The payload of vector V-DEC-3. -/
def anglePayload : Payload := ⟨0x00, 0x40, 0x00, 0xC0, 0xFF, 0xFF, 0x21, 0x3A⟩

/-- The payload of vector V-DEC-4. -/
def magPayload : Payload := ⟨0x64, 0x00, 0x9C, 0xFF, 0x00, 0x00, 0xF2, 0xF9⟩

/-- The payload of vector V-DEC-5. -/
def echoPayload : Payload := ⟨0x03, 0x00, 0x06, 0x00, 0x34, 0x12, 0xFF, 0xFF⟩

/-- The payload of vector V-DEC-6. -/
def otherPayload : Payload := ⟨0x34, 0x12, 0x78, 0x56, 0xFF, 0xFF, 0x00, 0x00⟩

theorem test_wf_acc_checksum :
    (Instr.frameAcc accPayload 0xAC).wellFormed = true ∧ (Instr.frameAcc accPayload 0xAD).wellFormed = false := by decide

theorem test_wf_gyro_checksum :
    (Instr.frameGyro gyroPayload 0x30).wellFormed = true ∧ (Instr.frameGyro gyroPayload 0x2F).wellFormed = false := by
  decide

theorem test_wf_angle_checksum :
    (Instr.frameAngle anglePayload 0x01).wellFormed = true ∧ (Instr.frameAngle anglePayload 0x00).wellFormed = false := by
  decide

theorem test_wf_mag_checksum :
    (Instr.frameMag magPayload 0x93).wellFormed = true ∧ (Instr.frameMag magPayload 0x13).wellFormed = false := by decide

theorem test_wf_echo_checksum :
    (Instr.frameEcho echoPayload 0x01).wellFormed = true ∧ (Instr.frameEcho echoPayload 0xFF).wellFormed = false := by
  decide

theorem test_wf_other_checksum :
    (Instr.frameOther 0x50 otherPayload 0xB7).wellFormed = true ∧
      (Instr.frameOther 0x50 otherPayload 0xB8).wellFormed = false := by decide

theorem test_wf_other_type : (Instr.frameOther 0x51 accPayload 0xAC).wellFormed = false := by decide

theorem test_wf_command_unlock :
    (Instr.txCommand 0x69 0x88 0xB5).wellFormed = false ∧ (Instr.txCommand 0x69 0x88 0xB4).wellFormed = true := by decide

/-! ## Decoding: every constructor from a word written out in the spec -/

/-- Frames of vectors V-DEC-1 to V-DEC-7. -/
theorem test_decode_frames :
    decodeTableWord 88 0x5551004000F80100C409AC = some (.frameAcc accPayload 0xAC) ∧
    decodeTableWord 88 0x55520080FF7F00404A0130 = some (.frameGyro gyroPayload 0x30) ∧
    decodeTableWord 88 0x5553004000C0FFFF213A01 = some (.frameAngle anglePayload 0x01) ∧
    decodeTableWord 88 0x555464009CFF0000F2F993 = some (.frameMag magPayload 0x93) ∧
    decodeTableWord 88 0x555F030006003412FFFF01 = some (.frameEcho echoPayload 0x01) ∧
    decodeTableWord 88 0x555034127856FFFF0000B7 = some (.frameOther 0x50 otherPayload 0xB7) ∧
    decodeTableWord 88 0x55550000000000000000AA = some (.frameOther 0x55 ⟨0, 0, 0, 0, 0, 0, 0, 0⟩ 0xAA) := by decide

/-- Every type code next to a recognised one is FRAME.OTHER's (R92). -/
theorem test_decode_type_neighbours :
    ([0x50, 0x55, 0x5E, 0x60] : List Byte).all (fun ty =>
      decode (encodeFrame ty accPayload 0) == .ok (.frameOther ty accPayload 0)) = true := by decide

/-- The two outbound rows (R95, R96; vector V-TX-3). -/
theorem test_decode_outbound :
    decodeTableWord 40 0xFFAA6988B5 = some .txUnlock ∧
    decodeTableWord 40 0xFFAAAB3412 = some (.txCommand 0xAB 0x34 0x12) := by decide

/-- The event words of table B7. -/
theorem test_decode_events :
    decodeTableWord 64 0x1000000000000000 = some (.init 0) ∧
    decodeTableWord 64 0x1200000000000000 = some (.init 2) ∧
    decodeTableWord 64 0x20550000000003EB = some (.rxByte 0 0x55 1003) ∧
    decodeTableWord 64 0x2155000000000005 = some (.rxByte 1 0x55 5) ∧
    decodeTableWord 64 0x3003000600000000 = some (.issue 0x03 0x0006) ∧
    decodeTableWord 64 0x3069B58800000000 = some (.issue 0x69 0xB588) ∧
    decodeTableWord 64 0x400000000000000A = some (.drive 10) ∧
    decodeTableWord 64 0x5000000000000096 = some (.checkWatchdog 150) := by decide

/-- The wrappers' event words of table B7. -/
theorem test_decode_wrappers :
    decodeTableWord 64 0x6000000000000000 = some (.save 0x0000) ∧
    decodeTableWord 64 0x7000000100000000 = some (.calibrate 0x0001) ∧
    decodeTableWord 64 0x8000001E00000000 = some (.setOutputContent 0x001E) ∧
    decodeTableWord 64 0x9000000600000000 = some (.setOutputRate 0x0006) ∧
    decodeTableWord 64 0xA000000200000000 = some (.setBaudRate 0x0002) := by decide

/-- The encoder writes the words of table B7 and of vector V-DEC-1. -/
theorem test_encode_words :
    encode (.rxByte 0 0x55 1003) = [0x20, 0x55, 0, 0, 0, 0, 0x03, 0xEB] ∧
    encode (.issue 0x69 0xB588) = [0x30, 0x69, 0xB5, 0x88, 0, 0, 0, 0] ∧
    encode (.frameAcc accPayload 0xAC) = [0x55, 0x51, 0x00, 0x40, 0x00, 0xF8, 0x01, 0x00, 0xC4, 0x09, 0xAC] := by decide

/-- Reserved event opcodes are refused by name (R102). -/
theorem test_decode_reserved :
    ([0x0, 0xB, 0xC, 0xD, 0xE, 0xF] : List (BitVec 4)).all (fun op =>
      decode [op ++ (0 : BitVec 4), 0, 0, 0, 0, 0, 0, 0] == .error (.reservedEventOpcode op)) = true := by decide

/-- Words of no format are refused by name. -/
theorem test_decode_no_format :
    decode [] = .error (.badLength 0) ∧
    decode [0x55, 0x51] = .error (.badLength 2) ∧
    decode [0x54, 0x51, 0, 0, 0, 0, 0, 0, 0, 0, 0] = .error (.noSync 0x54) ∧
    decode [0xFF, 0xAB, 0, 0, 0] = .error (.noHeader 0xFF 0xAB) := by decide

/-! ## One event each, from the spec's vectors -/

/-- The block just after `INIT 0`. -/
def fresh : State := .reset

/-- A block that has been brought to a transmitter state, with the stored frame of V-TX-1. -/
def sending (p : TxProgress) (ts : Tick) : State :=
  { fresh with tx := { frame := #v[0xFF, 0xAA, 0x03, 0x06, 0x00], progress := p, ts := ts } }

/-- A block in which a frame is under way. -/
def receiving (cursor : BitVec 4) (buf : Vector Byte Config.RX_LEN) : State :=
  { fresh with rx := { last := 0, buf := buf, cursor := cursor } }

/-- A block with given watchdog inputs. -/
def silent (lastFrame lastRestart : Tick) : State :=
  { fresh with wdRestartTs := lastRestart, sensor := { SensorState.reset with lastFrameTs := lastFrame } }

/-- A block that has never been initialised. -/
def raw : State := { fresh with initialised := false, trace := [] }

/-- What a view of the next state is, if there is one. -/
def after {α : Type} (i : Instr) (s : State) (view : State → α) : Option α :=
  match takeEvent i s with
  | .next t => some (view t)
  | .fault _ => none
  | .refused _ => none

/-- V-DEC-1 at T = 50. -/
theorem test_frame_acc :
    after (.frameAcc accPayload 0xAC) { fresh with tickIn := 50 } (fun t => t.sensor) =
      some { SensorState.reset with accRaw := ⟨16384, -2048, 1⟩, tempRaw := 2500, lastFrameTs := 50 } := by decide

/-- V-DEC-2 at T = 7. -/
theorem test_frame_gyro :
    after (.frameGyro gyroPayload 0x30) { fresh with tickIn := 7 } (fun t => t.sensor) =
      some { SensorState.reset with gyroRaw := ⟨-32768, 32767, 16384⟩, voltRaw := 330, lastFrameTs := 7 } := by decide

/-- V-DEC-3 with the start of V-DEC-11: the period runs across the wrap. -/
theorem test_frame_angle :
    after (.frameAngle anglePayload 0x01) { fresh with tickIn := 0x10, angleTs := 0xFFFFFFF0 }
        (fun t => (t.sensor, t.angleTs)) =
      some ({ SensorState.reset with
        angleRaw := ⟨16384, -16384, -1⟩, version := 14881, anglePeriod := 0x20, lastFrameTs := 0x10 }, 0x10) := by decide

/-- V-DEC-4 at T = 70. -/
theorem test_frame_mag :
    after (.frameMag magPayload 0x93) { fresh with tickIn := 70 } (fun t => t.sensor) =
      some { SensorState.reset with magRaw := ⟨100, -100, 0⟩, tempRaw := -1550, lastFrameTs := 70 } := by decide

/-- V-DEC-5 at T = 31. -/
theorem test_frame_echo :
    after (.frameEcho echoPayload 0x01) { fresh with tickIn := 31 } (fun t => t.sensor) =
      some { SensorState.reset with
        echo := #v[0x55, 0x5F, 0x03, 0x00, 0x06, 0x00, 0x34, 0x12, 0xFF, 0xFF, 0x01], lastFrameTs := 31 } := by decide

/-- V-DEC-6 at T = 50. -/
theorem test_frame_other :
    after (.frameOther 0x50 otherPayload 0xB7) { fresh with tickIn := 50 } (fun t => t.sensor) =
      some { SensorState.reset with lastFrameTs := 50 } := by decide

/-- V-RX-5's reading for a frame word: the checksum fails, nothing changes. -/
theorem test_frame_dropped :
    after (.frameAcc ⟨0, 0x40, 0, 0, 0, 0, 0, 0⟩ 0xE7) { fresh with tickIn := 110 } (fun t => t.sensor) =
      some SensorState.reset := by decide

/-- DRIVE's emission of the unlock frame, as an instruction (R191; log 8). -/
theorem test_tx_unlock :
    after .txUnlock { sending .unlockPending 0 with tickIn := 777 } (fun t => (t.tx.progress, t.tx.ts, t.trace)) =
      some (.unlockSent, 777, [.rxArm, .tx #v[0xFF, 0xAA, 0x69, 0x88, 0xB5]]) := by decide

/-- DRIVE's emission of the stored command frame, as an instruction (R192; log 8); other bytes are not emitted. -/
theorem test_tx_command :
    after (.txCommand 0x03 0x06 0x00) { sending .unlockSent 777 with tickIn := 787 }
        (fun t => (t.tx.progress, t.tx.ts, t.trace)) =
      some (.commandSent, 787, [.rxArm, .tx #v[0xFF, 0xAA, 0x03, 0x06, 0x00]]) ∧
    after (.txCommand 0x03 0x06 0x01) { sending .unlockSent 777 with tickIn := 787 }
        (fun t => (t.tx.progress, t.tx.ts, t.trace)) = some (.unlockSent, 777, [.rxArm]) := by decide

/-- V-INIT-1, from a block that has never been initialised. -/
theorem test_init :
    after (.init 3) raw (fun t => t) = some { State.reset with cfgTag := 3 } := by decide

/-- V-INIT-2: the command is abandoned and no frame is sent. -/
theorem test_init_abandons :
    after (.init 0) (sending .unlockSent 9) (fun t => (t.tx, t.trace)) =
      some (OutgoingCommand.reset, [.rxArm, .rxArm]) := by decide

/-- V-RX-3: a 0x55 inside a frame is data. -/
theorem test_rx_sync_is_data :
    after (.rxByte 0 0x55 8) (receiving 1 #v[0x55, 0, 0, 0, 0, 0, 0, 0, 0, 0, 0]) (fun t => t.rx) =
      some { last := 0x55, buf := #v[0x55, 0x55, 0, 0, 0, 0, 0, 0, 0, 0, 0], cursor := 2 } := by decide

/-- V-RX-6: the eleventh byte completes a valid frame of all-ones fields. -/
theorem test_rx_completes :
    after (.rxByte 0 0x9E 10) (receiving 10 #v[0x55, 0x51, 255, 255, 255, 255, 255, 255, 255, 255, 0])
        (fun t => (t.rx.cursor, t.sensor, t.trace)) =
      some (0, { SensorState.reset with accRaw := ⟨-1, -1, -1⟩, tempRaw := -1, lastFrameTs := 10 },
        [.rxArm, .rxArm]) := by decide

/-- V-TX-3, and V-TX-2. -/
theorem test_issue :
    after (.issue 0xAB 0x1234) fresh (fun t => (t.tx, t.trace)) =
      some (⟨#v[0xFF, 0xAA, 0xAB, 0x34, 0x12], .unlockPending, 0⟩, [.rxArm, .status .ok]) ∧
    after (.issue 0x04 0x0002) (sending .unlockPending 0) (fun t => (t.tx, t.trace)) =
      some ((sending .unlockPending 0).tx, [.rxArm, .status .busy]) := by decide

/-- V-TX-7 and V-TX-9: the window is inclusive and runs across the wrap. -/
theorem test_drive_window :
    after (.drive 786) (sending .unlockSent 777) (fun t => t.tx.progress) = some .unlockSent ∧
    after (.drive 787) (sending .unlockSent 777) (fun t => (t.tx.progress, t.tx.ts)) = some (.commandSent, 787) ∧
    after (.drive 4) (sending .unlockSent 0xFFFFFFFB) (fun t => t.tx.progress) = some .unlockSent ∧
    after (.drive 5) (sending .unlockSent 0xFFFFFFFB) (fun t => (t.tx.progress, t.tx.ts)) = some (.commandSent, 5) := by
  decide

/-- V-TX-8: completion keeps the send timestamp and emits nothing. -/
theorem test_drive_completes :
    after (.drive 796) (sending .commandSent 787) (fun t => t.tx.progress) = some .commandSent ∧
    after (.drive 797) (sending .commandSent 787) (fun t => (t.tx.progress, t.tx.ts, t.trace)) =
      some (.idle, 787, [.rxArm]) := by decide

/-- V-WD-1 to V-WD-3: stale is strict, the rate limit inclusive. -/
theorem test_watchdog_limits :
    after (.checkWatchdog 100) (silent 0 0) (fun t => t.wdRestartTs) = some 0 ∧
    after (.checkWatchdog 101) (silent 0 0) (fun t => (t.wdRestartTs, t.trace)) = some (101, [.rxArm, .rxArm]) ∧
    after (.checkWatchdog 200) (silent 0 101) (fun t => t.wdRestartTs) = some 101 ∧
    after (.checkWatchdog 201) (silent 0 101) (fun t => t.wdRestartTs) = some 201 := by decide

/-- V-WD-5: a restart empties the buffer and leaves its bytes. -/
theorem test_watchdog_keeps_bytes :
    after (.checkWatchdog 101) (receiving 6 #v[0x55, 0x53, 0x00, 0x20, 0x00, 0xE0, 0, 0, 0, 0, 0]) (fun t => t.rx) =
      some { last := 0, buf := #v[0x55, 0x53, 0x00, 0x20, 0x00, 0xE0, 0, 0, 0, 0, 0], cursor := 0 } := by decide

/-- The value and the progress a wrapper stores; the register identifier is an OPEN parameter. -/
def stored (i : Instr) : Option (Byte × Byte × Half × TxProgress) :=
  after i fresh fun t => (t.tx.frame[0], t.tx.frame[1], t.tx.value, t.tx.progress)

/-- V-CAT-1. -/
theorem test_save : stored (.save 0x0000) = some (0xFF, 0xAA, 0x0000, .unlockPending) := by decide

/-- V-CAT-2. -/
theorem test_calibrate : stored (.calibrate 0x0001) = some (0xFF, 0xAA, 0x0001, .unlockPending) := by decide

/-- V-CAT-3. -/
theorem test_set_output_content : stored (.setOutputContent 0x001E) = some (0xFF, 0xAA, 0x001E, .unlockPending) := by
  decide

/-- V-CAT-4. -/
theorem test_set_output_rate : stored (.setOutputRate 0x0006) = some (0xFF, 0xAA, 0x0006, .unlockPending) := by decide

/-- V-CAT-5, and V-CAT-6 as SETBAUDRATE on a block with a command in flight. -/
theorem test_set_baud_rate :
    stored (.setBaudRate 0x0002) = some (0xFF, 0xAA, 0x0002, .unlockPending) ∧
    after (.setBaudRate 0x0002) (sending .unlockPending 0) (fun t => (t.tx, t.trace)) =
      some ((sending .unlockPending 0).tx, [.rxArm, .status .busy]) := by decide

/-! ## The step, the script text, the ports -/

/-- A step from reset runs exactly the word placed where it fetches (event 3 of program P5). -/
theorem test_step_fetches :
    step (State.reset.withFetchWord 64 0x3069B58800000000) = exec (.issue 0x69 0xB588) State.reset := rfl

/-- A step refuses a reserved event word by name (table B7). -/
theorem test_step_refuses :
    step (State.reset.withFetchWord 64 0xB000000000000000) = .refused (.undecodable (.reservedEventOpcode 0xB)) := rfl

/-- Before INIT a step has no meaning to give (R293). -/
theorem test_step_before_init :
    step (raw.withFetchWord 64 0x400000000000000A) = .refused .beforeInit := rfl

/-- Events 1, 2 and 5 of program P1 and its syntax (R103, R104): the tag of an RXBYTE is the INIT's. -/
theorem test_script_text :
    parseScript 0 ("INIT 2 ; bind\nRXBYTE 0xA7 @1001\nISSUE 0x69, 0xB588\nRXBYTES 0x55 81 @4294967295 +1\n").toList =
      .ok [.init 2, .rxByte 2 0xA7 1001, .issue 0x69 0xB588, .rxByte 2 0x55 4294967295, .rxByte 2 0x51 0] := by decide

/-- Two strobes at one instant are admitted in either order (R262), and the emitted unlock frame shows on the ports. -/
theorem test_ports :
    (let p : PortsIn := ⟨9, false, 0, true, 0, 0x55, false, 0, 0, true, false⟩
     p.admits [.rxByte 0 0x55 9, .drive 9] = true ∧ p.admits [.drive 9, .rxByte 0 0x55 9] = true ∧
       p.admits [.drive 9] = false) ∧
    after (.drive 9) (sending .unlockPending 0) (fun t => (portsOut (sending .unlockPending 0) t).txData) =
      some (some 0xFFAA6988B5) := by decide

/-! ## Witnesses: for every statement with hypotheses, concrete operands and a state that meet them all, one part for each
clause. -/

theorem witness_DecodeOfEncodeIsIdentity :
    (Instr.frameGyro gyroPayload 0x30).wellFormed = true ∧ (Instr.txCommand 0x69 0x88 0xB4).wellFormed = true ∧
      (Instr.rxByte 15 0xFF 0xFFFFFFFF).wellFormed = true := by decide

theorem witness_DecodedFrameReencodes :
    decode [0xFF, 0xAA, 0x69, 0x88, 0xB5] = .ok .txUnlock ∧ ([0xFF, 0xAA, 0x69, 0x88, 0xB5] : List Byte).length ≠ 8 ∧
      decode [0x55, 0xFF, 0, 0, 0, 0, 0, 0, 0, 0, 0] = .ok (.frameOther 0xFF ⟨0, 0, 0, 0, 0, 0, 0, 0⟩ 0) := by decide

/-- The largest word of each width, one with a row and two without. -/
theorem witness_DecoderAgreesWithOpcodeTable :
    (2 ^ 88 - 1 < 2 ^ 88 ∧ 2 ^ 40 - 1 < 2 ^ 40 ∧ 2 ^ 64 - 1 < 2 ^ 64) ∧
      (selectRow 88 0x55FF000000000000000000).map OpcodeRow.mnemonic = some "FRAME.OTHER" ∧
      (selectRow 40 0xFFAA6988B5).map OpcodeRow.mnemonic = some "TX.UNLOCK" ∧ selectRow 64 (2 ^ 64 - 1) = none := by
  decide

theorem witness_StepRunsDecodedInstruction :
    ({ fresh with script := [[0x40, 0, 0, 0, 0, 0, 0, 10], [0]] } : State).script =
        [0x40, 0, 0, 0, 0, 0, 0, 10] :: [[0]] ∧
      decode [0x40, 0, 0, 0, 0, 0, 0, 10] = .ok (.drive 10) := by decide

theorem witness_StepRefusesUndecodableWord :
    fresh.script = [] ∧ ({ fresh with script := [[0]] } : State).script = [0] :: [] ∧
      decode [0] = .error (.badLength 1) := by decide

/-- Two events with the rest of a script behind them. -/
theorem witness_ScriptRunIsEventSequence :
    (∀ i ∈ [Instr.issue 3 6, .drive 5], i.wellFormed = true) ∧
      takeEvents [.issue 3 6, .drive 5] { fresh with script := [[0]] } =
        .next { sending .unlockSent 5 with
          tickIn := 5
          script := [[0]]
          trace := [.rxArm, .status .ok, .tx #v[0xFF, 0xAA, 0x69, 0x88, 0xB5]] } := ⟨by decide, rfl⟩

theorem witness_TraceAndScriptAreNotRead :
    exec (.issue 3 6) fresh = .next { sending .unlockPending 0 with trace := [.rxArm, .status .ok] } := rfl

theorem witness_AtMostOneActionPerEvent :
    exec (.drive 7) fresh = .next fresh ∧
      exec (.issue 4 2) (sending .unlockPending 0) =
        .next { sending .unlockPending 0 with trace := [.rxArm, .status .busy] } := ⟨rfl, rfl⟩

theorem witness_EveryEventCompletes : fresh.initialised = true ∧ ∃ tag, Instr.init 15 = .init tag :=
  ⟨rfl, 15, rfl⟩

theorem witness_NothingBeforeInit : raw.initialised = false ∧ ∀ tag, Instr.save 0 ≠ .init tag :=
  ⟨rfl, fun _ h => nomatch h⟩

/-- A state in the middle of a frame and of a command, holding an echo, whose next word is the eleventh byte. -/
def busyState : State :=
  { fresh with
    rx := { last := 0xFF, buf := #v[0x55, 0x5F, 3, 0, 6, 0, 0x34, 0x12, 0xFF, 0xFF, 0], cursor := 10 }
    sensor := { SensorState.reset with echo := #v[0x55, 0x5F, 3, 0, 6, 0, 0x34, 0x12, 0xFF, 0xFF, 1] }
    tx := (sending .unlockSent 4).tx
    script := [[0x20, 0x01, 0, 0, 0, 0, 0, 9]] }

theorem busyState_inv : BlockInv busyState := by
  unfold BlockInv CursorInRange FrameBeginsWithSync CommandHasHeader EchoIsFrame
  decide

theorem witness_StepKeepsInvariants :
    BlockInv busyState ∧
      step busyState = .next { busyState with
        rx := { last := 1, buf := #v[0x55, 0x5F, 3, 0, 6, 0, 0x34, 0x12, 0xFF, 0xFF, 1], cursor := 0 }
        sensor := { busyState.sensor with lastFrameTs := 9 }
        trace := [.rxArm, .rxArm]
        tickIn := 9
        script := [] } := ⟨busyState_inv, rfl⟩

theorem witness_InitEstablishesInvariants :
    exec (.init 3) raw = .next { fresh with cfgTag := 3 } := rfl

theorem witness_ResetIsInitZero : raw.trace = [] ∧ raw.tickIn = 0 ∧ raw.script = [] := by decide

theorem witness_TransportMismatchHasNoEffect : fresh.initialised = true ∧ (1 : Tag) ≠ fresh.cfgTag := by decide

theorem witness_NonSyncByteIsDiscarded :
    fresh.initialised = true ∧ fresh.rx.cursor = 0 ∧ (0x54 : Byte) ≠ 0x55 := by decide

/-- The first position, which takes only the sync byte, and the last before the eleventh, which takes any. -/
theorem witness_AcceptedByteIsAppended :
    (fresh.initialised = true ∧ fresh.rx.cursor.toNat = 0 ∧ 0 < 10 ∧ (0 ≠ 0 ∨ (0x55 : Byte) = 0x55)) ∧
    ((receiving 9 #v[0x55, 0, 0, 0, 0, 0, 0, 0, 0, 0, 0]).initialised = true ∧
      (receiving 9 #v[0x55, 0, 0, 0, 0, 0, 0, 0, 0, 0, 0]).rx.cursor.toNat = 9 ∧ 9 < 10 ∧
      (9 ≠ 0 ∨ (0x00 : Byte) = 0x55)) := by decide

theorem witness_EleventhByteResetsCursor : busyState.initialised = true ∧ busyState.rx.cursor = 10 := by decide

/-- The checksum byte one off: 0x55 + 0x5F + 3 + 6 + 0x34 + 0x12 + 0xFF + 0xFF = 0x301. -/
theorem witness_InvalidFrameIsDropped :
    busyState.initialised = true ∧ busyState.rx.cursor = 10 ∧
      busyState.rx.buf = #v[0x55, 0x5F, 3, 0, 6, 0, 0x34, 0x12, 0xFF, 0xFF, 0] ∧
      (0x55 + 0x5F + 3 + 0 + 6 + 0 + 0x34 + 0x12 + 0xFF + 0xFF) % 256 ≠ (0x00 : Byte).toNat := by decide

theorem witness_ValidFrameStampsLink :
    busyState.initialised = true ∧ busyState.rx.cursor = 10 ∧
      busyState.rx.buf = #v[0x55, 0x5F, 3, 0, 6, 0, 0x34, 0x12, 0xFF, 0xFF, 0] ∧
      (0x55 + 0x5F + 3 + 0 + 6 + 0 + 0x34 + 0x12 + 0xFF + 0xFF) % 256 = (0x01 : Byte).toNat := by decide

theorem witness_CompletedFrameRunsItsInstruction :
    busyState.initialised = true ∧ busyState.rx.cursor = 10 ∧ busyState.rx.buf = frameBuffer 0x5F echoPayload 0 := by
  decide

theorem witness_ElevenBytesReceiveOneFrame : fresh.initialised = true ∧ fresh.rx.cursor = 0 := by decide

theorem witness_NoSyncNoFrame :
    fresh.initialised = true ∧ fresh.rx.cursor = 0 ∧
      ∀ p ∈ [((0x54 : Byte), (1 : Tick)), (0x56, 2), (0xAA, 3)], p.1 ≠ 0x55 := ⟨rfl, rfl, by simp⟩

/-- The receiver of vector V-RX-9 between two frames. -/
theorem witness_FalseLockPersists :
    (receiving 9 #v[0x55, 0, 0, 0, 0, 0, 0, 0, 0xFC, 0x55, 0x52]).initialised = true ∧
      (receiving 9 #v[0x55, 0, 0, 0, 0, 0, 0, 0, 0xFC, 0x55, 0x52]).rx.cursor = 9 ∧
      (receiving 9 #v[0x55, 0, 0, 0, 0, 0, 0, 0, 0xFC, 0x55, 0x52]).rx.buf =
        #v[0x55, 0, 0, 0, 0, 0, 0, 0, 0xFC, 0x55, 0x52] := by decide

/-- A change of the checksum byte itself, the last of the range. -/
theorem witness_SingleByteChangeIsDetected :
    10 < 11 ∧ frameValid (frameBuffer 0x51 accPayload 0xAC) = true ∧
      (0xAD : Byte) ≠ (frameBuffer 0x51 accPayload 0xAC)[10] := by decide

theorem witness_FrameAccUpdates : fresh.initialised = true ∧ (0xAC : Byte) = checksumOf 0x51 accPayload := by decide

theorem witness_FrameGyroUpdates : fresh.initialised = true ∧ (0x30 : Byte) = checksumOf 0x52 gyroPayload := by decide

theorem witness_FrameAngleUpdates : fresh.initialised = true ∧ (0x01 : Byte) = checksumOf 0x53 anglePayload := by decide

theorem witness_FrameMagUpdates : fresh.initialised = true ∧ (0x93 : Byte) = checksumOf 0x54 magPayload := by decide

theorem witness_FrameEchoAndOtherUpdates :
    fresh.initialised = true ∧ (0x01 : Byte) = checksumOf 0x5F echoPayload ∧
      ((0x50 : Byte) ≠ 0x51 ∧ (0x50 : Byte) ≠ 0x52 ∧ (0x50 : Byte) ≠ 0x53 ∧ (0x50 : Byte) ≠ 0x54 ∧
        (0x50 : Byte) ≠ 0x5F ∧ (0xB7 : Byte) = checksumOf 0x50 otherPayload) := by decide

theorem witness_InvalidFrameWordIsDropped :
    fresh.initialised = true ∧ (0xAD : Byte) ≠ checksumOf 0x51 accPayload ∧
      (0x00 : Byte) ≠ checksumOf 0xFF otherPayload := by decide

/-- Two states that differ in the transmitter, the watchdog and the output, and the byte each takes. -/
theorem witness_DecodeIgnoresTransmitter :
    (sending .unlockSent 9).cfgTag = fresh.cfgTag ∧ (sending .unlockSent 9).rx = fresh.rx ∧
      (sending .unlockSent 9).sensor = fresh.sensor ∧ (sending .unlockSent 9).angleTs = fresh.angleTs ∧
      (exec (.rxByte 0 0x54 1) fresh =
        .next { fresh with rx := { fresh.rx with last := 0x54 }, trace := [.rxArm, .rxArm] }) ∧
      (exec (.rxByte 0 0x54 1) (sending .unlockSent 9) =
        .next { sending .unlockSent 9 with rx := { fresh.rx with last := 0x54 }, trace := [.rxArm, .rxArm] }) :=
  ⟨rfl, rfl, rfl, rfl, rfl, rfl⟩

/-- Two states whose earlier frames left different link timestamps. -/
theorem witness_DecodeIgnoresEarlierFrames :
    (silent 7 0).cfgTag = fresh.cfgTag ∧ (silent 7 0).rx = fresh.rx ∧ (silent 7 0).angleTs = fresh.angleTs ∧
      (silent 7 0).sensor ≠ fresh.sensor ∧
      (exec (.rxByte 0 0x54 1) fresh =
        .next { fresh with rx := { fresh.rx with last := 0x54 }, trace := [.rxArm, .rxArm] }) ∧
      (exec (.rxByte 0 0x54 1) (silent 7 0) =
        .next { silent 7 0 with rx := { fresh.rx with last := 0x54 }, trace := [.rxArm, .rxArm] }) :=
  ⟨rfl, rfl, rfl, by decide, rfl, rfl⟩

theorem witness_PhysicalViewsAreExact : accValue 0x4000 = accValue 0x4000 := rfl

/-- The lower bound of each range (pattern 0x8000), and a value just below the upper bound (pattern 0x7FFF). -/
theorem witness_QuantisedValueRoundTrip :
    fresh.initialised = true ∧
      ((-16 : Rat) ≤ -16 ∧ (-16 : Rat) < 16 ∧ (0x80 : Byte) ++ (0x00 : Byte) = BitVec.ofInt 16 ⌊(-16 : Rat) * 2048⌋) ∧
      ((-2000 : Rat) ≤ -2000 ∧ (-2000 : Rat) < 2000 ∧
        (0x80 : Byte) ++ (0x00 : Byte) = BitVec.ofInt 16 ⌊(-2000 : Rat) * 2048 / 125⌋) ∧
      ((-180 : Rat) ≤ 1799 / 10 ∧ (1799 / 10 : Rat) < 180 ∧
        (0x7F : Byte) ++ (0xED : Byte) = BitVec.ofInt 16 ⌊(1799 / 10 : Rat) * 8192 / 45⌋) := by
  refine ⟨rfl, ⟨?_, ?_, ?_⟩, ⟨?_, ?_, ?_⟩, ?_, ?_, ?_⟩ <;> norm_num <;> decide

theorem witness_IssueStoresCommand : fresh.initialised = true ∧ fresh.tx.progress = .idle := by decide

/-- Busy in each of the three stages of a command, for ISSUE and a wrapper. -/
theorem witness_BusyIsReportedAndChangesNothing :
    (sending .unlockPending 0).initialised = true ∧ issued (.issue 4 2) = some (4, 2) ∧
      issued (.setBaudRate 2) = some (Config.REG_BAUD_RATE, 2) ∧ (sending .unlockPending 0).tx.progress ≠ .idle ∧
      (sending .unlockSent 0).tx.progress ≠ .idle ∧ (sending .commandSent 0).tx.progress ≠ .idle :=
  ⟨rfl, rfl, rfl, by decide, by decide, by decide⟩

theorem witness_WrappersStoreTheirCommand :
    fresh.initialised = true ∧ issued (.save 0xFFFF) = some (Config.REG_SAVE, 0xFFFF) ∧
      issued (.issue 0xFF 0) = some (0xFF, 0) ∧ fresh.tx.progress = .idle := ⟨rfl, rfl, rfl, rfl⟩

theorem witness_DriveInIdleDoesNothing : fresh.initialised = true ∧ fresh.tx.progress = .idle := by decide

theorem witness_DriveSendsUnlock :
    (sending .unlockPending 0).initialised = true ∧ (sending .unlockPending 0).tx.progress = .unlockPending := by decide

/-- At 9 ticks and at 10, across the wrap of the counter (V-TX-9). -/
theorem witness_DriveSendsCommand :
    (sending .unlockSent 0xFFFFFFFB).initialised = true ∧ (sending .unlockSent 0xFFFFFFFB).tx.progress = .unlockSent ∧
      ¬ 10 ≤ ticksBetween 4 0xFFFFFFFB ∧ 10 ≤ ticksBetween 5 0xFFFFFFFB := by decide

theorem witness_DriveCompletesCommand :
    (sending .commandSent 787).initialised = true ∧ (sending .commandSent 787).tx.progress = .commandSent ∧
      ¬ 10 ≤ ticksBetween 796 787 ∧ 10 ≤ ticksBetween 797 787 := by decide

/-- Each of the four clauses: TX.UNLOCK where it is due and where not, TX.COMMAND where it is due and one byte off. -/
theorem witness_OutboundRowsAreDriveEmissions :
    (sending .unlockPending 0).tx.progress = .unlockPending ∧ (sending .commandSent 0).tx.progress ≠ .unlockPending ∧
      (let s : State := { sending .unlockSent 777 with tickIn := 787 }
       s.initialised = true ∧ s.tx.progress = .unlockSent ∧ 10 ≤ ticksBetween s.tickIn s.tx.ts ∧
         s.tx.frame = #v[0xFF, 0xAA, 0x03, 0x06, 0x00] ∧ s.tx.frame ≠ #v[0xFF, 0xAA, 0x03, 0x06, 0x01]) := by decide

theorem witness_TransmitterTransitions :
    (∀ tag, Instr.issue 3 6 ≠ .init tag) ∧
      exec (.issue 3 6) fresh = .next { sending .unlockPending 0 with trace := [.rxArm, .status .ok] } ∧
      (∀ tag, Instr.drive 20 ≠ .init tag) ∧
      exec (.drive 20) (sending .commandSent 10) = .next (sending .idle 10) :=
  ⟨fun _ h => (nomatch h), rfl, fun _ h => (nomatch h), rfl⟩

theorem witness_StoredCommandIsKept :
    (sending .unlockPending 0).tx.progress ≠ .idle ∧ NoInit [.issue 4 2] ∧
      takeEvents [.issue 4 2] (sending .unlockPending 0) =
        .next { sending .unlockPending 0 with trace := [.rxArm, .status .busy] } ∧
      ∀ k u, takeEvents ([Instr.issue 4 2].take k) (sending .unlockPending 0) = .next u → u.tx.progress ≠ .idle := by
  refine ⟨by decide, by simp [NoInit], rfl, ?_⟩
  rintro (_ | k) u h
  · cases h
    decide
  · rw [List.take_succ_cons, List.take_nil] at h
    cases h
    decide

theorem witness_UnlockThenCommandThenIdle :
    fresh.initialised = true ∧ fresh.tx.progress = .idle ∧ 10 ≤ ticksBetween 10 0 ∧ 10 ≤ ticksBetween 20 10 := by decide

theorem witness_EarlyDrivesAreHarmless :
    (sending .unlockSent 777).initialised = true ∧
      ((sending .unlockSent 777).tx.progress = .unlockSent ∨ (sending .unlockSent 777).tx.progress = .commandSent) ∧
      (sending .commandSent 777).tx.progress = .commandSent ∧
      ∀ now ∈ [(777 : Tick), 786], ticksBetween now (sending .unlockSent 777).tx.ts < 10 :=
  ⟨rfl, .inl rfl, rfl, List.forall_mem_cons.mpr ⟨by decide, List.forall_mem_cons.mpr ⟨by decide, by simp⟩⟩⟩

theorem witness_TraceFollowsProtocol :
    CommandHasHeader fresh ∧ NoInit [.issue 3 6, .drive 5] ∧
      takeEvents [.issue 3 6, .drive 5] fresh = .next { sending .unlockSent 5 with
        tickIn := 5
        trace := [.rxArm, .status .ok, .tx #v[0xFF, 0xAA, 0x69, 0x88, 0xB5]] } :=
  ⟨fun h => absurd rfl h, by simp [NoInit], rfl⟩

/-- Due, at the first tick it is, and not due, by the staleness limit and by the rate limit (V-WD-1 to V-WD-3). -/
theorem witness_WatchdogRestartsExactlyWhenDue :
    fresh.initialised = true ∧ (100 < ticksBetween 101 0 ∧ 100 ≤ ticksBetween 101 0) ∧ ¬ 100 < ticksBetween 100 0 ∧
      ¬ 100 ≤ ticksBetween 200 101 ∧ 100 ≤ ticksBetween 201 101 := by decide

theorem witness_RestartsAreSpaced :
    (silent 0 101).initialised = true ∧ (silent 0 101).wdRestartTs = 101 ∧ NoInit [.checkWatchdog 200] ∧
      (∀ i ∈ [Instr.checkWatchdog 200], ∀ n, i = .checkWatchdog n → ticksBetween n 101 < 100) ∧
      takeEvents [.checkWatchdog 200] (silent 0 101) = .next { silent 0 101 with tickIn := 200 } ∧
      ticksBetween 200 101 < 100 := by
  refine ⟨rfl, rfl, by simp [NoInit], ?_, rfl, by decide⟩
  intro i hi n hn
  simp only [List.mem_singleton] at hi
  cases hi.symm.trans hn
  decide

theorem witness_EachEventWritesOnlyItsRegisters :
    (∀ tag, Instr.checkWatchdog 101 ≠ .init tag) ∧
      exec (.checkWatchdog 101) fresh = .next { fresh with wdRestartTs := 101, trace := [.rxArm, .rxArm] } :=
  ⟨fun _ h => (nomatch h), rfl⟩

/-- One event of each class the statement speaks of, E1 to E5. -/
theorem witness_ErrorClassEffects :
    errorClass (.issue 4 2) (sending .unlockPending 0) = some .busy ∧
      errorClass (.rxByte 1 0x55 3) fresh = some .transportMismatch ∧
      errorClass (.rxByte 0 0x54 3) fresh = some .framingError ∧
      errorClass (.rxByte 0 0x00 3) busyState = some .checksumFailure ∧
      errorClass (.frameOther 0x50 otherPayload 0xB7) fresh = some .unrecognisedType ∧
      exec (.rxByte 1 0x55 3) fresh = .next fresh :=
  ⟨by decide, by decide, by decide, by decide, by decide, rfl⟩

/-- The largest distance below the width of the counter. -/
theorem witness_ElapsedIsModular : 2 ^ 32 - 1 < 2 ^ 32 ∧ 2 ^ 32 - 1 ≠ 0 := by decide

end Sys2Proof.Tests
end

section
/-! PROOF. The frame receiver (40_frame_receiver.md R120 to R129): what RXBYTE does to a byte of the block's own transport
at `rx_cursor` 0 and at the eleventh position, and the statements of that family. -/

namespace Sys2Proof.Machine

/-! ## Validation -/

/-- The validity test on eleven bytes in hand, as numbers (R125). -/
theorem frameValid_mk_iff (b0 b1 b2 b3 b4 b5 b6 b7 b8 b9 b10 : Byte) :
    frameValid #v[b0, b1, b2, b3, b4, b5, b6, b7, b8, b9, b10] = true ↔
      (b0.toNat + b1.toNat + b2.toNat + b3.toNat + b4.toNat + b5.toNat + b6.toNat + b7.toNat + b8.toNat + b9.toNat) % 256
        = b10.toNat := by
  rw [frameValid, beq_iff_eq, ← BitVec.toNat_inj, sum8_toNat]
  exact Iff.rfl

/-- A valid frame stamps the link after its decode, so no decode arm can undo the stamp (R127). -/
theorem acceptFrame_lastFrameTs_of_valid {buf : Vector Byte Config.RX_LEN} (now : Tick) (arm : State → State)
    (s : State) (h : frameValid buf = true) : (acceptFrame buf now arm s).sensor.lastFrameTs = now := by
  rw [acceptFrame, if_pos h, stampLink_sensor]

/-- Neither validation nor decode touches the ReceiveBuffer (R53, R124). -/
theorem acceptFrame_decodeByType_rx (buf : Vector Byte Config.RX_LEN) (now : Tick) (s : State) :
    (acceptFrame buf now (decodeByType buf now) s).rx = s.rx := by
  obtain ⟨r, a, h⟩ := acceptFrame_frame buf now (decodeByType buf now) s (decodeByType_frame buf now s)
  rw [h]

/-! ## RXBYTE on a byte of the block's own transport -/

theorem exec_rxByte {s : State} (tag : Tag) (b : Byte) (now : Tick) (h : s.initialised = true) :
    exec (.rxByte tag b now) s = .next (rxByte tag b now s) :=
  afterInit_of_initialised _ h

/-- A byte other than the sync byte is discarded while the receiver awaits sync (R122). -/
theorem rxByte_of_discarded {s : State} {b : Byte} (now : Tick) (hc : s.rx.cursor = 0) (hb : b ≠ 0x55) :
    rxByte s.cfgTag b now s = (s.setRxLast b).emit .rxArm := by
  rcases rxByte_cases s.cfgTag b now s with ⟨ht, -⟩ | ⟨-, -, -, e⟩ | ⟨-, hr, -⟩
  · exact absurd rfl ht
  · exact e
  · exact (hr.elim (· hc) hb).elim

/-- Within a frame every byte is received, and so is a sync byte at any time (R122, R123). -/
theorem rxByte_of_received {s : State} {b : Byte} (now : Tick) (h : s.rx.cursor ≠ 0 ∨ b = 0x55) :
    rxByte s.cfgTag b now s = (receiveByte b now (s.setRxLast b)).emit .rxArm := by
  rcases rxByte_cases s.cfgTag b now s with ⟨ht, -⟩ | ⟨-, hc, hb, -⟩ | ⟨-, -, e⟩
  · exact absurd rfl ht
  · exact (h.elim (· hc) hb).elim
  · exact e

/-! ## The eleventh byte -/

/-- The state in which the eleventh byte's frame is validated: the byte stored, the cursor already back at 0 (R124). -/
def State.collected (s : State) (b : Byte) : State :=
  { s with rx := { last := b, buf := s.rx.buf.set 10 b, cursor := 0 } }

/-- Storing at cursor 10 reaches `RX_LEN`, so the frame is validated and decoded from a cleared cursor (R123, R124). -/
theorem receiveByte_eleventh {s : State} (b : Byte) (now : Tick) (hc : s.rx.cursor = 10) :
    receiveByte b now (s.setRxLast b) =
      acceptFrame (s.rx.buf.set 10 b) now (decodeByType (s.rx.buf.set 10 b) now) (s.collected b) := by
  have hfull : frameComplete ((s.setRxLast b).pushByte b) = true := by
    rw [frameComplete_iff]
    simp [hc]
  have hbuf : ((s.setRxLast b).pushByte b).rx.buf = s.rx.buf.set 10 b := by
    ext j hj
    simp [hc, Vector.getElem_set, Vector.getElem_setIfInBounds]
  have hclear : ((s.setRxLast b).pushByte b).clearCursor = s.collected b := by
    simp only [State.clearCursor, State.collected, hbuf]
    rfl
  simp only [receiveByte, hfull, if_true, frameReady, hbuf, hclear]

/-- RXBYTE at the eleventh position is validation and decode of the eleven bytes, then the one `rx_arm` (R124 to R129). -/
theorem exec_rxByte_eleventh {s : State} (b : Byte) (now : Tick) (hi : s.initialised = true) (hc : s.rx.cursor = 10) :
    exec (.rxByte s.cfgTag b now) s =
      .next ((acceptFrame (s.rx.buf.set 10 b) now (decodeByType (s.rx.buf.set 10 b) now) (s.collected b)).emit
        .rxArm) := by
  have hne : s.rx.cursor ≠ 0 := by simp [hc]
  rw [exec_rxByte _ b now hi, rxByte_of_received now (.inl hne), receiveByte_eleventh b now hc]

/-! ## The statements -/

/-- Settles O22: the cursor and the bytes are those the frame was validated with, for validation and decode leave the
ReceiveBuffer alone. -/
theorem eleventhByteResetsCursor : Obligations.EleventhByteResetsCursor := by
  intro b now s hi hc
  refine ⟨_, exec_rxByte_eleventh b now hi hc, ?_⟩
  rw [emit_rx, acceptFrame_decodeByType_rx]
  refine ⟨rfl, rfl, fun j hj => ?_⟩
  simp only [State.collected, Vector.getElem_set, @eq_comm _ 10 j]

/-- Settles O24: the sum test is validity of the eleven bytes, and a valid frame stamps the link last. -/
theorem validFrameStampsLink : Obligations.ValidFrameStampsLink := by
  intro b0 b1 b2 b3 b4 b5 b6 b7 b8 b9 old b now s hi hc hbuf hsum
  have hset : s.rx.buf.set 10 b = #v[b0, b1, b2, b3, b4, b5, b6, b7, b8, b9, b] := by rw [hbuf]; rfl
  have hvalid : frameValid (s.rx.buf.set 10 b) = true := by
    rw [hset]
    exact (frameValid_mk_iff ..).mpr hsum
  refine ⟨_, exec_rxByte_eleventh b now hi hc, ?_⟩
  rw [emit_sensor, acceptFrame_lastFrameTs_of_valid now _ _ hvalid]

/-- Settles O20: RXBYTE takes its discarding branch. -/
theorem nonSyncByteIsDiscarded : Obligations.NonSyncByteIsDiscarded := by
  intro b now s hi hc hb
  rw [exec_rxByte _ b now hi, rxByte_of_discarded now hc hb]
  rfl

end Sys2Proof.Machine
end

section
/-! PROOF. The command transmitter (42_command_transmitter.md R180 to R195): what ISSUE makes of Idle, what DRIVE does
at each value of `tx_progress`, and the statements of that family. -/

namespace Sys2Proof.Machine

open Sys2Proof.Safety

/-! ## Runs -/

/-- A run goes on where its first part ended (20_memory.md R72). -/
theorem takeEvents_append_next {is : List Instr} {s t : State} (h : takeEvents is s = .next t) (js : List Instr) :
    takeEvents (is ++ js) s = takeEvents js t := by
  induction is generalizing s with
  | nil => cases h; rfl
  | cons i is ih =>
    obtain ⟨u, hu, hrest⟩ := takeEvents_cons_cases h
    exact (takeEvents_cons_next hu).trans (ih hrest)

/-! ## ISSUE -/

/-- The two value bytes of a command frame are the remainder and the quotient by 256, low byte first (R181). -/
theorem commandFrame_eq (reg : Byte) (val : Half) :
    commandFrame reg val = #v[0xFF, 0xAA, reg, BitVec.ofNat 8 val.toNat, BitVec.ofNat 8 (val.toNat / 256)] := by
  have hlow : valLow val = BitVec.ofNat 8 val.toNat := by
    apply BitVec.eq_of_toNat_eq
    simp [valLow]
  have hhigh : valHigh val = BitVec.ofNat 8 (val.toNat / 256) := by
    apply BitVec.eq_of_toNat_eq
    simp [valHigh, Nat.shiftRight_eq_div_pow]
  simp only [commandFrame, hlow, hhigh]

theorem exec_issue {s : State} (reg : Byte) (val : Half) (h : s.initialised = true) :
    exec (.issue reg val) s = .next (issueCommand reg val s) :=
  afterInit_of_initialised _ h

theorem issueCommand_of_idle {s : State} (reg : Byte) (val : Half) (hp : s.tx.progress = .idle) :
    issueCommand reg val s = (s.storeCommand reg val).emit (.status .ok) := by
  rcases issueCommand_cases reg val s with ⟨hbusy, -⟩ | ⟨-, e⟩
  · exact absurd hp hbusy
  · exact e

/-! ## DRIVE -/

theorem exec_drive {s : State} (now : Tick) (h : s.initialised = true) : exec (.drive now) s = .next (drive now s) :=
  afterInit_of_initialised _ h

theorem drive_of_idle {s : State} (now : Tick) (hp : s.tx.progress = .idle) : drive now s = s := by
  simp only [drive, hp]

theorem drive_of_unlockPending {s : State} (now : Tick) (hp : s.tx.progress = .unlockPending) :
    drive now s = sendUnlock now s := by
  simp only [drive, hp]

theorem drive_of_unlockSent {s : State} (now : Tick) (hp : s.tx.progress = .unlockSent) :
    drive now s = if 10 ≤ ticksBetween now s.tx.ts then sendCommand now s else s := by
  simp only [drive, hp, gapElapsed_iff]

theorem drive_of_commandSent {s : State} (now : Tick) (hp : s.tx.progress = .commandSent) :
    drive now s = if 10 ≤ ticksBetween now s.tx.ts then finishCommand s else s := by
  simp only [drive, hp, gapElapsed_iff]

/-- DRIVE as an event of its own: the tick input has sampled the tick it carries (00_scope.md R8). -/
theorem takeEvents_drive {s : State} (now : Tick) (h : s.initialised = true) :
    takeEvents [.drive now] s = .next (drive now (s.sampleTick (some now))) :=
  takeEvents_cons_next (exec_drive now h)

/-! ## The statements of one event -/

/-- Settles O41: in Idle the command is accepted, and its frame has these five bytes. -/
theorem issueStoresCommand : Obligations.IssueStoresCommand := by
  intro reg val s hi hp
  rw [exec_issue reg val hi, issueCommand_of_idle reg val hp, State.storeCommand, commandFrame_eq]
  rfl

/-- Settles O45: DRIVE takes its Idle branch. -/
theorem driveInIdleDoesNothing : Obligations.DriveInIdleDoesNothing := by
  intro now s hi hp
  rw [exec_drive now hi, drive_of_idle now hp]

/-- Settles O46: DRIVE takes its UnlockPending branch, which asks for no window. -/
theorem driveSendsUnlock : Obligations.DriveSendsUnlock := by
  intro now s hi hp
  rw [exec_drive now hi, drive_of_unlockPending now hp]
  rfl

/-! ## A command from ISSUE to completion -/

/-- ISSUE in Idle and the next DRIVE: the command is stored and the unlock frame is out (R181, R186). -/
theorem takeEvents_issue_drive {s : State} (reg : Byte) (val : Half) (now : Tick) (hi : s.initialised = true)
    (hp : s.tx.progress = .idle) :
    takeEvents [.issue reg val, .drive now] s =
      .next (sendUnlock now (((s.storeCommand reg val).emit (.status .ok)).sampleTick (some now))) := by
  have hissue : takeEvent (.issue reg val) s = .next ((s.storeCommand reg val).emit (.status .ok)) := by
    rw [← issueCommand_of_idle reg val hp]
    exact exec_issue reg val hi
  have hpending : (((s.storeCommand reg val).emit (.status .ok)).sampleTick (some now)).tx.progress = .unlockPending :=
    rfl
  rw [takeEvents_cons_next hissue, ← drive_of_unlockPending now hpending]
  exact takeEvents_drive now hi

/-- The first DRIVE past the window after the unlock frame sends the command (R187). -/
theorem takeEvents_drive_of_unlockSent {s : State} (now : Tick) (hi : s.initialised = true)
    (hp : s.tx.progress = .unlockSent) (hgap : 10 ≤ ticksBetween now s.tx.ts) :
    takeEvents [.drive now] s = .next (sendCommand now (s.sampleTick (some now))) := by
  rw [takeEvents_drive now hi, drive_of_unlockSent (s := s.sampleTick (some now)) now hp, sampleTick_tx, if_pos hgap]

/-- The first DRIVE past the window after the command frame completes the command (R188). -/
theorem takeEvents_drive_of_commandSent {s : State} (now : Tick) (hi : s.initialised = true)
    (hp : s.tx.progress = .commandSent) (hgap : 10 ≤ ticksBetween now s.tx.ts) :
    takeEvents [.drive now] s = .next (finishCommand (s.sampleTick (some now))) := by
  rw [takeEvents_drive now hi, drive_of_commandSent (s := s.sampleTick (some now)) now hp, sampleTick_tx, if_pos hgap]

/-- Two DRIVEs after the unlock frame, each past its window, send the command and complete it (R187, R188). -/
theorem takeEvents_drive_drive_of_unlockSent {s : State} (t1 t2 : Tick) (hi : s.initialised = true)
    (hp : s.tx.progress = .unlockSent) (hgap1 : 10 ≤ ticksBetween t1 s.tx.ts) (hgap2 : 10 ≤ ticksBetween t2 t1) :
    takeEvents [.drive t1, .drive t2] s =
      .next (finishCommand ((sendCommand t1 (s.sampleTick (some t1))).sampleTick (some t2))) :=
  (takeEvents_append_next (takeEvents_drive_of_unlockSent t1 hi hp hgap1) [.drive t2]).trans
    (takeEvents_drive_of_commandSent t2 hi rfl hgap2)

/-- Settles O52: each DRIVE meets the stage the one before it left, with that stage's window elapsed. What remains are the
registers of the three states: the two traces, and the receiver and SensorState no stage touches. -/
theorem unlockThenCommandThenIdle : Obligations.UnlockThenCommandThenIdle := by
  intro reg val t0 t1 t2 s hi hp hgap1 hgap2
  have hunlock := takeEvents_issue_drive reg val t0 hi hp
  have hrun := (takeEvents_append_next hunlock [.drive t1, .drive t2]).trans
    (takeEvents_drive_drive_of_unlockSent t1 t2 hi rfl hgap1 hgap2)
  refine ⟨_, _, _, hunlock, rfl, rfl, ?_, takeEvents_drive_of_unlockSent t1 hi rfl hgap1, rfl, rfl, ?_,
    takeEvents_drive_of_commandSent t2 hi rfl hgap2, rfl, rfl, hrun, ?_, ?_⟩
  · simp
  · simp [commandFrame_eq]
  · simp
  · simp

end Sys2Proof.Machine
end

section
/-! PROOF. The exceptions (60_exceptions.md): class E5, a command issued while one is in flight (R255). -/

namespace Sys2Proof.Machine

open Sys2Proof.Safety

/-- A wrapper runs as the ISSUE of its register and value, with no check of its own (43_command_catalog.md R215). -/
theorem exec_of_issued {i : Instr} {reg : Byte} {val : Half} (s : State) (h : issued i = some (reg, val)) :
    exec i s = exec (.issue reg val) s := by
  cases i
  case issue | save | calibrate | setOutputContent | setOutputRate | setBaudRate => cases h; rfl
  all_goals cases h

theorem issueCommand_of_inFlight {s : State} (reg : Byte) (val : Half) (hp : s.tx.progress ≠ .idle) :
    issueCommand reg val s = s.emit (.status .busy) := by
  rcases issueCommand_cases reg val s with ⟨-, e⟩ | ⟨hidle, -⟩
  · exact e
  · exact absurd hidle hp

/-- Settles O42: whatever the wrapper, what runs is ISSUE, which takes its refusing branch. -/
theorem busyIsReportedAndChangesNothing : Obligations.BusyIsReportedAndChangesNothing := by
  intro i reg val s hi hissued hp
  rw [exec_of_issued s hissued, exec_issue reg val hi, issueCommand_of_inFlight reg val hp]
  rfl

end Sys2Proof.Machine
end

section
/-! PROOF. The encodings (30_encoding.md R90 to R105): what the decoder makes of an encoded frame, of an outbound frame
and of an event word. -/

namespace Sys2Proof

open Sys2Proof.Machine Sys2Proof.Safety

/-! ## Inbound frames -/

/-- The type code alone chooses the row of a frame that begins with the sync byte (R92, R105). -/
theorem decodeFrame_sync (type : Byte) (d : Payload) (cs : Byte) :
    decodeFrame Config.SYNC type d cs = .ok (frameInstr type d cs) := by
  simp only [decodeFrame, frameInstr, ne_eq, not_true, if_false, apply_ite Except.ok]

theorem decodeFrame_eq_ok {sync type cs : Byte} {d : Payload} {i : Instr} (h : decodeFrame sync type d cs = .ok i) :
    sync = Config.SYNC ∧ i = frameInstr type d cs := by
  by_cases hs : sync = Config.SYNC
  · subst hs
    rw [decodeFrame_sync] at h
    exact ⟨rfl, by cases h; rfl⟩
  · rw [decodeFrame, if_pos hs] at h
    cases h

/-- Whatever its row, a frame is written with the type code it was read by. -/
theorem encode_frameInstr (type : Byte) (d : Payload) (cs : Byte) :
    encode (frameInstr type d cs) = encodeFrame type d cs := by
  unfold frameInstr
  repeat' split
  all_goals simp only [encode, *]

theorem recognisedType_eq_false_iff (type : Byte) :
    recognisedType type = false ↔
      type ≠ Config.TYPE_ACC ∧ type ≠ Config.TYPE_GYRO ∧ type ≠ Config.TYPE_ANGLE ∧ type ≠ Config.TYPE_MAG ∧
        type ≠ Config.TYPE_ECHO := by
  simp only [recognisedType, Bool.or_eq_false_iff, beq_eq_false_iff_ne, and_assoc]

theorem frameInstr_of_not_recognised {type : Byte} (d : Payload) (cs : Byte) (h : recognisedType type = false) :
    frameInstr type d cs = .frameOther type d cs := by
  obtain ⟨hacc, hgyro, hangle, hmag, hecho⟩ := (recognisedType_eq_false_iff type).mp h
  simp only [frameInstr, if_neg hacc, if_neg hgyro, if_neg hangle, if_neg hmag, if_neg hecho]

theorem decode_encodeFrame (type : Byte) (d : Payload) (cs : Byte) :
    decode (encodeFrame type d cs) = .ok (frameInstr type d cs) :=
  decodeFrame_sync type d cs

/-! ## Outbound frames -/

/-- A five-byte word with the header is TX.UNLOCK for the unlock bytes and TX.COMMAND for all others (R105; log 9). -/
theorem decode_encode_txCommand (reg valLo valHi : Byte) :
    decode (encode (.txCommand reg valLo valHi)) =
      if isUnlock reg valLo valHi then .ok .txUnlock else .ok (.txCommand reg valLo valHi) := by
  simp [encode, decode, decodeTx]

theorem isUnlock_iff (reg valLo valHi : Byte) :
    isUnlock reg valLo valHi = true ↔ reg = 0x69 ∧ valLo = 0x88 ∧ valHi = 0xB5 := by
  simp [isUnlock, and_assoc]

theorem encode_of_decodeTx_eq_ok {h0 h1 reg valLo valHi : Byte} {i : Instr}
    (h : decodeTx h0 h1 reg valLo valHi = .ok i) : encode i = [h0, h1, reg, valLo, valHi] := by
  unfold decodeTx at h
  split at h
  · cases h
  next hheader =>
    obtain ⟨h0eq, h1eq⟩ := not_or.mp hheader
    rw [not_not] at h0eq h1eq
    split at h
    next hunlock =>
      obtain ⟨rfl, rfl, rfl⟩ := (isUnlock_iff ..).mp hunlock
      cases h
      simp only [encode, h0eq, h1eq]
    · cases h
      simp only [encode, h0eq, h1eq]

/-! ## Event words -/

/-- The decoder reads back every field an event word was written with (R100). -/
theorem decode_encodeEvent (op tag : BitVec 4) (a8 : Byte) (v16 : Half) (now : Tick) :
    decode (encodeEvent op tag a8 v16 now) = decodeEvent op tag a8 v16 now := by
  simp only [encodeEvent, decode, hiNibble_append, loNibble_append, join16_byteOf, join32_byteOf]

/-- The operation codes one by one, by their number (R101, R102). -/
theorem decodeEvent_eq (op tag : BitVec 4) (a8 : Byte) (v16 : Half) (now : Tick) :
    decodeEvent op tag a8 v16 now =
      match op.toNat with
      | 1 => .ok (.init tag)
      | 2 => .ok (.rxByte tag a8 now)
      | 3 => .ok (.issue a8 v16)
      | 4 => .ok (.drive now)
      | 5 => .ok (.checkWatchdog now)
      | 6 => .ok (.save v16)
      | 7 => .ok (.calibrate v16)
      | 8 => .ok (.setOutputContent v16)
      | 9 => .ok (.setOutputRate v16)
      | 10 => .ok (.setBaudRate v16)
      | _ => .error (.reservedEventOpcode op) := by
  obtain ⟨n, hn⟩ := op
  interval_cases n <;> rfl

/-! ## The statements on decoding -/

/-- Settles O1: each format's decoder undoes its encoder; well-formedness says that the row is the one its bytes
select. -/
theorem decodeOfEncodeIsIdentity : Obligations.DecodeOfEncodeIsIdentity := by
  intro i hi
  cases i
  case frameAcc | frameGyro | frameAngle | frameMag | frameEcho => exact decode_encodeFrame ..
  case frameOther type d cs =>
    have htype : recognisedType type = false := by simp_all [Instr.wellFormed]
    exact (decode_encodeFrame type d cs).trans (congrArg _ (frameInstr_of_not_recognised d cs htype))
  case txUnlock => rfl
  case txCommand reg valLo valHi =>
    have hbytes : ¬ isUnlock reg valLo valHi = true := by simpa [Instr.wellFormed] using hi
    rw [decode_encode_txCommand, if_neg hbytes]
  all_goals exact decode_encodeEvent ..

/-- Settles O2: a word of eleven or five bytes is the frame of the fields that were read, header and type code
included. -/
theorem decodedFrameReencodes : Obligations.DecodedFrameReencodes := by
  intro bs i h hlen
  unfold decode at h
  split at h
  · obtain ⟨rfl, rfl⟩ := decodeFrame_eq_ok h
    exact encode_frameInstr ..
  · exact encode_of_decodeTx_eq_ok h
  · exact absurd rfl hlen
  · cases h

/-- Settles O3: the fields of the word are its bytes joined, and the operation code picks those it reads. -/
theorem eventWordFields : Obligations.EventWordFields := by
  intro op tag a8 vh vl n3 n2 n1 n0
  simp only [decode, hiNibble_append, loNibble_append]
  exact decodeEvent_eq ..

/-- Settles O6: the row is chosen by the test for the unlock bytes and by nothing else. -/
theorem onlyUnlockBytesReadAsUnlock : Obligations.OnlyUnlockBytesReadAsUnlock := by
  intro reg valLo valHi
  rw [decode_encode_txCommand, ← isUnlock_iff]
  by_cases h : isUnlock reg valLo valHi = true <;> simp [h]

/-- Settles O7: both sides sum the same ten bytes modulo 256. -/
theorem checksumConstraintIsValidity : Obligations.ChecksumConstraintIsValidity := by
  intro type d cs
  rw [frameBuffer, frameValid_mk_iff, ← BitVec.toNat_inj, checksumOf, BitVec.toNat_ofNat]
  exact eq_comm

/-- Settles O5: each word evaluates to its event. -/
theorem specWordsDecode : Obligations.SpecWordsDecode := by
  unfold Obligations.SpecWordsDecode
  decide

end Sys2Proof
end

section
/-! PROOF. The decoder against the opcode table (30_encoding.md R105): both read the leading bits of a word, which
`w & mask = match` compares as a number. -/

namespace Sys2Proof

open Sys2Proof.Machine Sys2Proof.Safety

/-! ## The mask rule -/

/-- Masking with `k` ones above bit `j` keeps the `k` bits of the word that start there. -/
theorem land_ones_shifted (w j k : Nat) : w &&& (2 ^ k - 1) * 2 ^ j = w / 2 ^ j % 2 ^ k * 2 ^ j := by
  apply Nat.eq_of_testBit_eq
  intro i
  rw [Nat.testBit_and, Nat.testBit_mul_two_pow, Nat.testBit_mul_two_pow, Nat.testBit_two_pow_sub_one,
    Nat.testBit_mod_two_pow, Nat.testBit_div_two_pow]
  by_cases hj : j ≤ i
  · simp [hj, Bool.and_comm]
  · simp [hj]

theorem selectRow_of_selects_eq {nbits w : Nat} {p : OpcodeRow → Bool}
    (h : ∀ r ∈ opcodeTable, r.selects nbits w = p r) :
    selectRow nbits w = (opcodeTable.filter p).foldl OpcodeRow.longer none := by
  rw [selectRow, List.filter_congr h]

/-! ## Inbound frames -/

/-- A frame word selects FRAME.OTHER and the row of its type code, if there is one. -/
theorem selects_frame {w : Nat} {type : Byte} (hw : w / 2 ^ 72 = 0x5500 + type.toNat) :
    ∀ r ∈ opcodeTable, r.selects 88 w =
      (r.width == 88 && (r.pattern == 0x5500 * 2 ^ 72 || r.pattern == (0x5500 + type.toNat) * 2 ^ 72)) := by
  have htwo := land_ones_shifted w 72 16
  have hone := land_ones_shifted w 80 8
  have hsync : w / 2 ^ 80 = 0x55 := by omega
  have hmod : (0x5500 + type.toNat) % 2 ^ 16 = 0x5500 + type.toNat := by omega
  rw [hw, hmod] at htwo
  rw [hsync] at hone
  norm_num at htwo hone
  simp [opcodeTable, OpcodeRow.selects, htwo, hone, @eq_comm Nat _ (_ * _)]

/-- Of the two rows that a recognised frame word selects, its type code's has the longer mask. -/
theorem selectRow_frame {w : Nat} {type : Byte} (hw : w / 2 ^ 72 = 0x5500 + type.toNat) (d : Payload) (cs : Byte) :
    (selectRow 88 w).map OpcodeRow.mnemonic = some (frameInstr type d cs).mnemonic := by
  rw [selectRow_of_selects_eq (selects_frame hw)]
  unfold frameInstr
  split_ifs with hacc hgyro hangle hmag hecho
  case neg =>
    rw [List.filter_congr (q := fun r => r.mnemonic == "FRAME.OTHER")]
    · rfl
    · simp [opcodeTable]
      bv_omega
  all_goals
    subst type
    simp [opcodeTable]
    exact ⟨_, rfl, rfl⟩

theorem selectRow_of_noSync {w : Nat} (hw : w / 2 ^ 80 % 2 ^ 8 ≠ 0x55) : selectRow 88 w = none := by
  have htwo := land_ones_shifted w 72 16
  have hone := land_ones_shifted w 80 8
  norm_num at htwo hone
  rw [selectRow_of_selects_eq (p := fun _ => false)]
  · rfl
  · simp [opcodeTable, OpcodeRow.selects, htwo, hone]
    omega

/-! ## Outbound frames -/

theorem selectRow_unlock : (selectRow 40 0xFFAA6988B5).map OpcodeRow.mnemonic = some "TX.UNLOCK" := by decide

theorem selectRow_command {w : Nat} (hw : w / 2 ^ 24 % 2 ^ 16 = 0xFFAA) (hne : w % 2 ^ 40 ≠ 0xFFAA6988B5) :
    (selectRow 40 w).map OpcodeRow.mnemonic = some "TX.COMMAND" := by
  have hall := land_ones_shifted w 0 40
  have htwo := land_ones_shifted w 24 16
  rw [hw] at htwo
  norm_num at hall htwo
  rw [selectRow_of_selects_eq (p := fun r => r.mnemonic == "TX.COMMAND")]
  · rfl
  · simp [opcodeTable, OpcodeRow.selects, hall, htwo]
    omega

theorem selectRow_of_noHeader {w : Nat} (hw : w / 2 ^ 24 % 2 ^ 16 ≠ 0xFFAA) : selectRow 40 w = none := by
  have hall := land_ones_shifted w 0 40
  have htwo := land_ones_shifted w 24 16
  norm_num at hall htwo
  rw [selectRow_of_selects_eq (p := fun _ => false)]
  · rfl
  · simp [opcodeTable, OpcodeRow.selects, hall, htwo]
    omega

/-! ## Event words -/

/-- The name of an event word's operation does not depend on its operands. -/
theorem decodeEvent_mnemonic (op tag : BitVec 4) (a8 : Byte) (v16 : Half) (now : Tick) :
    (decodeEvent op tag a8 v16 now).toOption.map Instr.mnemonic =
      (decodeEvent op 0 0 0 0).toOption.map Instr.mnemonic := by
  obtain ⟨n, hn⟩ := op
  interval_cases n <;> rfl

/-- An event word selects the row of its four leading bits. -/
theorem selects_event {w op : Nat} (hw : w / 2 ^ 60 % 2 ^ 4 = op) :
    ∀ r ∈ opcodeTable, r.selects 64 w = (r.width == 64 && r.pattern == op * 2 ^ 60) := by
  have hop := land_ones_shifted w 60 4
  rw [hw] at hop
  norm_num at hop
  simp [opcodeTable, OpcodeRow.selects, hop, @eq_comm Nat _ (_ * _)]

theorem selectRow_event {w : Nat} {op : BitVec 4} (hw : w / 2 ^ 60 % 2 ^ 4 = op.toNat) :
    (selectRow 64 w).map OpcodeRow.mnemonic = (decodeEvent op 0 0 0 0).toOption.map Instr.mnemonic := by
  rw [selectRow_of_selects_eq (selects_event hw)]
  obtain ⟨n, hn⟩ := op
  interval_cases n <;> simp [opcodeTable, decodeEvent, Except.toOption, Instr.mnemonic, OpcodeRow.longer]

/-! ## The statement, format by format -/

theorem decodeTableWord_eq (nbits w : Nat) :
    decodeTableWord nbits w = (decode (bytesOfNat (nbits / 8) w)).toOption := by
  unfold decodeTableWord
  cases decode (bytesOfNat (nbits / 8) w) <;> rfl

theorem decodeTableWord_frame {w : Nat} (hlt : w < 2 ^ 88) :
    (decodeTableWord 88 w).map Instr.mnemonic = (selectRow 88 w).map OpcodeRow.mnemonic := by
  rw [decodeTableWord_eq]
  simp only [bytesOfNat, decode]
  by_cases hsync : BitVec.ofNat 8 (w / 256 ^ 10) = Config.SYNC
  · rw [hsync, decodeFrame_sync]
    exact (selectRow_frame (by bv_omega) _ _).symm
  · rw [decodeFrame, if_pos hsync, selectRow_of_noSync (by bv_omega)]
    rfl

theorem decodeTableWord_outbound {w : Nat} (hlt : w < 2 ^ 40) :
    (decodeTableWord 40 w).map Instr.mnemonic = (selectRow 40 w).map OpcodeRow.mnemonic := by
  rw [decodeTableWord_eq]
  simp only [bytesOfNat, decode, decodeTx, isUnlock_iff]
  split_ifs with hheader hunlock
  · rw [selectRow_of_noHeader (by bv_omega)]
    rfl
  · have hw : w = 0xFFAA6988B5 := by bv_omega
    rw [hw, selectRow_unlock]
    rfl
  · rw [selectRow_command (by bv_omega) (by bv_omega)]
    rfl

theorem decodeTableWord_event {w : Nat} (hlt : w < 2 ^ 64) :
    (decodeTableWord 64 w).map Instr.mnemonic = (selectRow 64 w).map OpcodeRow.mnemonic := by
  have hop : w / 2 ^ 60 % 2 ^ 4 = (hiNibble (BitVec.ofNat 8 (w / 256 ^ 7))).toNat := by
    simp [hiNibble, Nat.shiftRight_eq_div_pow]
    omega
  rw [decodeTableWord_eq, selectRow_event hop]
  exact decodeEvent_mnemonic ..

/-- Settles O4: format by format, decoder and mask rule both read the leading bits of the word. -/
theorem decoderAgreesWithOpcodeTable : Obligations.DecoderAgreesWithOpcodeTable := by
  rintro nbits w (rfl | rfl | rfl) hlt
  · exact decodeTableWord_frame hlt
  · exact decodeTableWord_outbound hlt
  · exact decodeTableWord_event hlt

end Sys2Proof
end

section
/-! PROOF. Events, steps and runs (00_scope.md R8 to R10, 30_encoding.md R100 to R102): every instruction completes
after INIT, only appends to the trace, and a script of encoded instructions runs as those instructions in order. -/

namespace Sys2Proof.Machine

open Sys2Proof.Safety

/-! ## Which instructions have a meaning -/

/-- After INIT every instruction has its effect. -/
theorem exec_of_initialised {s : State} (i : Instr) (h : s.initialised = true) : exec i s = .next (effect i s) := by
  cases i
  case init => rfl
  all_goals exact afterInit_of_initialised _ h

theorem exec_init (tag : Tag) (s : State) : exec (.init tag) s = .next (initialise tag s) := rfl

/-- No instruction takes the block back to before INIT. -/
theorem Change.initialised_eq {i : Instr} {s t : State} (h : Change i s t) : t.initialised = s.initialised := by
  cases h
  case byte tag b now hi h =>
    rcases rxByte_frame tag b now s with e | ⟨_, _, _, e⟩ <;> rw [h, e]
  case watchdog now hi h =>
    rcases checkWatchdog_cases now s with ⟨-, -, e⟩ | ⟨-, e⟩ <;> rw [h, e]
    rfl
  all_goals subst_vars; rfl

theorem exec_initialised {i : Instr} {s t : State} (h : exec i s = .next t) : t.initialised = true := by
  by_cases hi : ∃ tag, i = .init tag
  · obtain ⟨tag, rfl⟩ := hi
    cases h
    rfl
  · have hinit : s.initialised = true := (exec_eq_next h).2.resolve_left hi
    rw [(exec_change (not_exists.mp hi) h).initialised_eq, hinit]

/-- Settles O13: every meaning is guarded by the flag alone, and no effect takes it back. -/
theorem everyEventCompletes : Obligations.EveryEventCompletes := by
  rintro i s (h | ⟨tag, rfl⟩)
  · exact ⟨_, exec_of_initialised i h, exec_initialised (exec_of_initialised i h)⟩
  · exact ⟨_, exec_init tag s, rfl⟩

/-- Settles O14: every meaning but INIT's is guarded by the flag. -/
theorem nothingBeforeInit : Obligations.NothingBeforeInit := by
  intro i s h hi
  have hrefused (t : State) : afterInit s t = .refused .beforeInit := by simp [afterInit, h]
  cases i
  case init tag => exact absurd rfl (hi tag)
  all_goals exact hrefused _

/-! ## What an effect appends to the trace -/

/-- The state with another trace and another script. -/
def State.withOutput (s : State) (tr : List Action) (sc : List (List Byte)) : State :=
  { s with trace := tr, script := sc }

/-- In `s` the operation appends `acts` to the trace, keeps the script, and does the same whatever stands in the two. -/
def Emits (f : State → State) (s : State) (acts : List Action) : Prop :=
  ∀ tr sc, f (s.withOutput tr sc) = (f s).withOutput (tr ++ acts) sc

theorem Emits.script_eq {f : State → State} {s : State} {acts : List Action} (h : Emits f s acts) :
    (f s).script = s.script :=
  (congrArg State.script (h s.trace s.script) :)

theorem Emits.trace_eq {f : State → State} {s : State} {acts : List Action} (h : Emits f s acts) :
    (f s).trace = s.trace ++ acts :=
  congrArg State.trace (h s.trace s.script)

/-- What an operation emits may be read off another that does the same from here. -/
theorem Emits.congr {f g : State → State} {s : State} {acts : List Action} (hf : Emits f s acts)
    (he : ∀ tr sc, g (s.withOutput tr sc) = f (s.withOutput tr sc)) : Emits g s acts := by
  have hs : g s = f s := he s.trace s.script
  intro tr sc
  rw [he, hf, hs]

/-- Of two operations in a row the actions come in order. -/
theorem Emits.comp {f g : State → State} {s : State} {acts acts' : List Action} (hf : Emits f s acts)
    (hg : Emits g (f s) acts') : Emits (fun s => g (f s)) s (acts ++ acts') := by
  intro tr sc
  simp only [hf tr sc, hg (tr ++ acts) sc, List.append_assoc]

/-- A choice made without a look at the trace or the script emits what the branch taken emits. -/
theorem Emits.ite {p : State → Prop} [DecidablePred p] {f g : State → State} {s : State} {acts : List Action}
    (hp : ∀ tr sc, p (s.withOutput tr sc) ↔ p s) (hf : p s → Emits f s acts) (hg : ¬ p s → Emits g s acts) :
    Emits (fun s => if p s then f s else g s) s acts := by
  intro tr sc
  by_cases h : p s
  · simp only [hp, h, if_true, hf h tr sc]
  · simp only [hp, h, if_false, hg h tr sc]

/-- A plain update of other fields emits nothing. -/
theorem emits_nil {f : State → State} {s : State} (h : ∀ tr sc, f (s.withOutput tr sc) = (f s).withOutput tr sc) :
    Emits f s [] := by
  intro tr sc
  rw [List.append_nil, h]

theorem emits_acceptFrame (buf : Vector Byte Config.RX_LEN) (now : Tick) {arm : State → State} {s : State}
    (h : Emits arm s []) : Emits (acceptFrame buf now arm) s [] :=
  .ite (fun _ _ => Iff.rfl) (fun _ => h.comp (emits_nil (f := (·.stampLink now)) fun _ _ => rfl))
    fun _ => emits_nil fun _ _ => rfl

theorem emits_decodeByType (buf : Vector Byte Config.RX_LEN) (now : Tick) (s : State) :
    Emits (decodeByType buf now) s [] := by
  unfold decodeByType
  split_ifs <;> exact emits_nil fun _ _ => rfl

theorem emits_receiveByte (b : Byte) (now : Tick) (s : State) : Emits (receiveByte b now) s [] := by
  have hready : Emits (fun s => frameReady now (s.pushByte b)) s [] :=
    Emits.congr (f := fun u => acceptFrame (s.pushByte b).rx.buf now (decodeByType (s.pushByte b).rx.buf now)
        (u.pushByte b).clearCursor)
      ((emits_nil (f := fun u => (u.pushByte b).clearCursor) fun _ _ => rfl).comp
        (emits_acceptFrame _ now (emits_decodeByType _ now _))) fun _ _ => rfl
  exact .ite (p := fun s => frameComplete (s.pushByte b) = true) (fun _ _ => Iff.rfl) (fun _ => hready)
    fun _ => emits_nil fun _ _ => rfl

/-! ## At most one action -/

/-- In `s` the operation emits one action or none. -/
def EmitsAtMostOne (f : State → State) (s : State) : Prop := ∃ acts, Emits f s acts ∧ acts.length ≤ 1

theorem Emits.atMostOne {f : State → State} {s : State} (h : Emits f s []) : EmitsAtMostOne f s := ⟨[], h, by simp⟩

theorem Emits.emit {f : State → State} {s : State} (h : Emits f s []) (a : Action) :
    EmitsAtMostOne (fun s => (f s).emit a) s :=
  ⟨[a], h.comp (g := (·.emit a)) (acts' := [a]) fun _ _ => rfl, le_rfl⟩

theorem EmitsAtMostOne.ite {p : State → Prop} [DecidablePred p] {f g : State → State} {s : State}
    (hp : ∀ tr sc, p (s.withOutput tr sc) ↔ p s) (hf : EmitsAtMostOne f s) (hg : EmitsAtMostOne g s) :
    EmitsAtMostOne (fun s => if p s then f s else g s) s := by
  by_cases h : p s
  · obtain ⟨acts, he, hl⟩ := hf
    exact ⟨acts, .ite hp (fun _ => he) (absurd h), hl⟩
  · obtain ⟨acts, he, hl⟩ := hg
    exact ⟨acts, .ite hp (fun h' => absurd h' h) fun _ => he, hl⟩

theorem EmitsAtMostOne.congr {f g : State → State} {s : State} (hf : EmitsAtMostOne f s)
    (he : ∀ tr sc, g (s.withOutput tr sc) = f (s.withOutput tr sc)) : EmitsAtMostOne g s := by
  obtain ⟨acts, h, hl⟩ := hf
  exact ⟨acts, h.congr he, hl⟩

theorem emitsAtMostOne_unchanged (s : State) : EmitsAtMostOne (fun s => s) s :=
  (emits_nil fun _ _ => rfl).atMostOne

theorem emitsAtMostOne_rxByte (tag : Tag) (b : Byte) (now : Tick) (s : State) :
    EmitsAtMostOne (rxByte tag b now) s := by
  have hlast : Emits (·.setRxLast b) s [] := emits_nil fun _ _ => rfl
  refine .ite (fun _ _ => Iff.rfl) (emitsAtMostOne_unchanged s) ?_
  refine .ite (p := fun s => awaitingSync (s.setRxLast b) ∧ b ≠ Config.SYNC) (fun _ _ => Iff.rfl) ?_ ?_
  · exact hlast.emit .rxArm
  · exact (hlast.comp (emits_receiveByte b now _)).emit .rxArm

theorem emitsAtMostOne_issueCommand (reg : Byte) (val : Half) (s : State) :
    EmitsAtMostOne (issueCommand reg val) s :=
  .ite (fun _ _ => Iff.rfl) ((emits_nil (f := fun s => s) fun _ _ => rfl).emit _)
    ((emits_nil (f := (·.storeCommand reg val)) fun _ _ => rfl).emit _)

theorem emitsAtMostOne_sendUnlock (now : Tick) (s : State) : EmitsAtMostOne (sendUnlock now) s :=
  ⟨[.tx Config.UNLOCK], fun _ _ => rfl, le_rfl⟩

theorem emitsAtMostOne_sendCommand (now : Tick) (s : State) : EmitsAtMostOne (sendCommand now) s :=
  ⟨[.tx s.tx.frame], fun _ _ => rfl, le_rfl⟩

theorem emitsAtMostOne_drive (now : Tick) (s : State) : EmitsAtMostOne (drive now) s := by
  have hwindow {f : State → State} (hf : EmitsAtMostOne f s) :
      EmitsAtMostOne (fun s => if 10 ≤ ticksBetween now s.tx.ts then f s else s) s :=
    .ite (fun _ _ => Iff.rfl) hf (emitsAtMostOne_unchanged s)
  cases hp : s.tx.progress
  case idle => exact (emitsAtMostOne_unchanged s).congr fun _ _ => drive_of_idle now hp
  case unlockPending => exact (emitsAtMostOne_sendUnlock now s).congr fun _ _ => drive_of_unlockPending now hp
  case unlockSent => exact (hwindow (emitsAtMostOne_sendCommand now s)).congr fun _ _ => drive_of_unlockSent now hp
  case commandSent =>
    exact (hwindow (f := finishCommand) (emits_nil fun _ _ => rfl).atMostOne).congr
      fun _ _ => drive_of_commandSent now hp

theorem emitsAtMostOne_checkWatchdog (now : Tick) (s : State) : EmitsAtMostOne (checkWatchdog now) s :=
  .ite (p := fun s => (stale now s && restartDue now s) = true) (fun _ _ => Iff.rfl)
    ⟨[.rxArm], fun _ _ => rfl, le_rfl⟩ (emitsAtMostOne_unchanged s)

/-- A frame word at the present tick input. -/
theorem emitsAtMostOne_frame (buf : Vector Byte Config.RX_LEN) {arm : Tick → State → State} {s : State}
    (h : Emits (arm s.tickIn) s []) : EmitsAtMostOne (fun s => acceptFrame buf s.tickIn (arm s.tickIn) s) s :=
  (emits_acceptFrame buf s.tickIn h).atMostOne.congr fun _ _ => rfl

theorem emitsAtMostOne_effect (i : Instr) (s : State) : EmitsAtMostOne (effect i) s := by
  cases i
  case frameAcc d cs => exact emitsAtMostOne_frame _ (arm := fun _ => decodeAcc _) (emits_nil fun _ _ => rfl)
  case frameGyro d cs => exact emitsAtMostOne_frame _ (arm := fun _ => decodeGyro _) (emits_nil fun _ _ => rfl)
  case frameAngle d cs => exact emitsAtMostOne_frame _ (arm := decodeAngle _) (emits_nil fun _ _ => rfl)
  case frameMag d cs => exact emitsAtMostOne_frame _ (arm := fun _ => decodeMag _) (emits_nil fun _ _ => rfl)
  case frameEcho d cs => exact emitsAtMostOne_frame _ (arm := fun _ => decodeEcho _) (emits_nil fun _ _ => rfl)
  case frameOther type d cs => exact emitsAtMostOne_frame _ (arm := fun _ => decodeOther) (emits_nil fun _ _ => rfl)
  case txUnlock =>
    exact .ite (fun _ _ => Iff.rfl) ((emitsAtMostOne_sendUnlock s.tickIn s).congr fun _ _ => rfl)
      (emitsAtMostOne_unchanged s)
  case txCommand reg valLo valHi =>
    exact .ite
      (p := fun s => emitsCommand s.tickIn #v[Config.HDR0, Config.HDR1, reg, valLo, valHi] s = true)
      (fun _ _ => Iff.rfl) ((emitsAtMostOne_sendCommand s.tickIn s).congr fun _ _ => rfl)
      (emitsAtMostOne_unchanged s)
  case init tag => exact ⟨[.rxArm], fun _ _ => rfl, le_rfl⟩
  case rxByte tag b now => exact emitsAtMostOne_rxByte tag b now s
  case drive now => exact emitsAtMostOne_drive now s
  case checkWatchdog now => exact emitsAtMostOne_checkWatchdog now s
  all_goals exact emitsAtMostOne_issueCommand _ _ s

/-- The guard of an instruction looks at neither the trace nor the script. -/
theorem exec_withOutput {i : Instr} {s t : State} (tr : List Action) (sc : List (List Byte)) (h : exec i s = .next t) :
    exec i (s.withOutput tr sc) = .next (effect i (s.withOutput tr sc)) := by
  obtain ⟨tag, rfl⟩ | hi := (exec_eq_next h).2
  · rfl
  · exact exec_of_initialised (s := s.withOutput tr sc) i hi

/-- Settles O11: the effect emits its actions and looks at neither field. -/
theorem traceAndScriptAreNotRead : Obligations.TraceAndScriptAreNotRead := by
  intro i s t tr sc h
  obtain ⟨rfl, -⟩ := exec_eq_next h
  obtain ⟨acts, hemits, -⟩ := emitsAtMostOne_effect i s
  exact ⟨hemits.script_eq, acts, hemits.trace_eq, (exec_withOutput tr sc h).trans (congrArg _ (hemits tr sc))⟩

/-- Settles O12: the actions an effect appends are those it emits. -/
theorem atMostOneActionPerEvent : Obligations.AtMostOneActionPerEvent := by
  intro i s t h
  obtain ⟨rfl, -⟩ := exec_eq_next h
  obtain ⟨acts, hemits, hlength⟩ := emitsAtMostOne_effect i s
  exact ⟨acts, hemits.trace_eq, hlength⟩

/-! ## Steps -/

/-- Settles O8: taking the event samples the tick it carries. -/
theorem stepRunsDecodedInstruction : Obligations.StepRunsDecodedInstruction := by
  intro s word rest i hs hi
  simp only [step, hs, hi, takeEvent, State.popScript, State.sampleTick, List.tail_cons]

/-- Settles O9: a step first asks for a word, then for its instruction. -/
theorem stepRefusesUndecodableWord : Obligations.StepRefusesUndecodableWord := by
  intro s
  refine ⟨fun hs => ?_, fun word rest e hs he => ?_⟩
  · simp only [step, hs]
  · simp only [step, hs, he]

/-- A step on the word of a well-formed instruction takes that instruction as an event. -/
theorem step_encode {i : Instr} (hi : i.wellFormed = true) (s : State) (rest : List (List Byte)) :
    step { s with script := encode i :: rest } = takeEvent i { s with script := rest } := by
  simp only [step, decodeOfEncodeIsIdentity i hi]
  rfl

/-- An event does the same to the rest of the block whatever stands in the script, which it keeps. -/
theorem takeEvent_script {i : Instr} {s t : State} (h : takeEvent i s = .next t) (sc : List (List Byte)) :
    t.script = s.script ∧ takeEvent i { s with script := sc } = .next { t with script := sc } := by
  obtain ⟨hkept, acts, htrace, hexec⟩ :=
    traceAndScriptAreNotRead i (s.sampleTick i.now?) t s.trace sc h
  refine ⟨hkept, ?_⟩
  rw [show s.trace ++ acts = t.trace from htrace.symm] at hexec
  exact hexec

/-- Settles O10: each step takes one word off the script, and its event leaves the words after it. -/
theorem scriptRunIsEventSequence : Obligations.ScriptRunIsEventSequence := by
  intro is
  induction is with
  | nil =>
    intro s t rest _ h
    cases h
    exact ⟨rfl, rfl⟩
  | cons i is ih =>
    intro s t rest hwf h
    obtain ⟨u, hu, hrun⟩ := takeEvents_cons_cases h
    obtain ⟨hscript, hevent⟩ := takeEvent_script hu (scriptOf is ++ rest)
    have hstep :
        step { s with script := scriptOf (i :: is) ++ rest } = .next { u with script := scriptOf is ++ rest } :=
      (step_encode (hwf i List.mem_cons_self) s _).trans hevent
    have hkept : { u with script := rest } = u := by rw [show rest = u.script from hscript.symm]
    obtain ⟨hruns, hrest⟩ := ih u t rest (fun j hj => hwf j (List.mem_cons_of_mem i hj)) (by rw [hkept, hrun])
    refine ⟨?_, hrest⟩
    simp only [List.length_cons, Host.Core.run]
    rw [show Sys2Proof.core.step { s with script := scriptOf (i :: is) ++ rest } = _ from hstep]
    exact hruns

end Sys2Proof.Machine
end

section
/-! PROOF. The frame rows and their fields (41_frame_decode.md R150 to R157, 30_encoding.md R91, R93): what a frame word
does when its checksum matches and when it does not. -/

namespace Sys2Proof.Machine

open Sys2Proof.Safety

/-! ## Validation -/

theorem acceptFrame_of_valid {buf : Vector Byte Config.RX_LEN} (now : Tick) (arm : State → State) (s : State)
    (h : frameValid buf = true) : acceptFrame buf now arm s = (arm s).stampLink now := by
  rw [acceptFrame, if_pos h]

theorem acceptFrame_of_invalid {buf : Vector Byte Config.RX_LEN} (now : Tick) (arm : State → State) (s : State)
    (h : frameValid buf ≠ true) : acceptFrame buf now arm s = s := by
  rw [acceptFrame, if_neg h]

/-- The frame word of a type code validates its bytes and runs the arm of that type code (R125, R151; log 6). -/
theorem exec_frameInstr {s : State} (type : Byte) (d : Payload) (cs : Byte) (h : s.initialised = true) :
    exec (frameInstr type d cs) s =
      .next (acceptFrame (frameBuffer type d cs) s.tickIn (decodeByType (frameBuffer type d cs) s.tickIn) s) := by
  have harm : decodeByType (frameBuffer type d cs) s.tickIn = fun u =>
      if type = Config.TYPE_ACC then decodeAcc (frameBuffer type d cs) u
      else if type = Config.TYPE_GYRO then decodeGyro (frameBuffer type d cs) u
      else if type = Config.TYPE_ANGLE then decodeAngle (frameBuffer type d cs) s.tickIn u
      else if type = Config.TYPE_MAG then decodeMag (frameBuffer type d cs) u
      else if type = Config.TYPE_ECHO then decodeEcho (frameBuffer type d cs) u
      else decodeOther u := rfl
  rw [exec_of_initialised _ h, harm]
  unfold frameInstr
  split_ifs <;> subst_vars <;> rfl

/-- A frame word with its checksum runs the arm of its type code and stamps the link (R125, R127). -/
theorem exec_frameInstr_of_valid {s : State} {type : Byte} {d : Payload} {cs : Byte} (h : s.initialised = true)
    (hcs : cs = checksumOf type d) :
    exec (frameInstr type d cs) s =
      .next ((decodeByType (frameBuffer type d cs) s.tickIn s).stampLink s.tickIn) := by
  rw [exec_frameInstr type d cs h, acceptFrame_of_valid _ _ _ ((checksumConstraintIsValidity type d cs).mpr hcs)]

/-- Settles O37: the frame fails validation, whatever arm stands behind it. -/
theorem invalidFrameWordIsDropped : Obligations.InvalidFrameWordIsDropped := by
  intro type d cs s hi hcs
  rw [exec_frameInstr type d cs hi, acceptFrame_of_invalid]
  exact fun hvalid => hcs ((checksumConstraintIsValidity type d cs).mp hvalid)

/-! ## Fields -/

/-- Settles O31: the pattern is 256 times the high byte plus the low byte, and `s16` folds it at 32767. -/
theorem fieldIsSignedLittleEndian : Obligations.FieldIsSignedLittleEndian := by
  intro lo hi
  simp only [s16, pair_toNat, Nat.cast_add, Nat.cast_mul, Nat.cast_ofNat]

theorem axesOf_frameBuffer (type : Byte) (d : Payload) (cs : Byte) :
    axesOf (frameBuffer type d cs) = ⟨d.d1 ++ d.d0, d.d3 ++ d.d2, d.d5 ++ d.d4⟩ := by
  simp only [axesOf, field0, field1, field2, pair_eq_append]
  rfl

theorem field3_frameBuffer (type : Byte) (d : Payload) (cs : Byte) :
    field3 (frameBuffer type d cs) = d.d7 ++ d.d6 := by
  simp only [field3, pair_eq_append]
  rfl

theorem elapsed_eq_ofNat (now t : Tick) : elapsed now t = BitVec.ofNat 32 (ticksBetween now t) := by
  rw [← elapsed_toNat_eq_ticksBetween, BitVec.ofNat_toNat, BitVec.setWidth_eq]

/-! ## The rows one by one -/

/-- Settles O32: the arm of type code 0x51. -/
theorem frameAccUpdates : Obligations.FrameAccUpdates := by
  intro d cs s hi hcs
  rw [← axesOf_frameBuffer Config.TYPE_ACC d cs, ← field3_frameBuffer Config.TYPE_ACC d cs]
  exact exec_frameInstr_of_valid (type := Config.TYPE_ACC) hi hcs

/-- Settles O33: the arm of type code 0x52. -/
theorem frameGyroUpdates : Obligations.FrameGyroUpdates := by
  intro d cs s hi hcs
  rw [← axesOf_frameBuffer Config.TYPE_GYRO d cs, ← field3_frameBuffer Config.TYPE_GYRO d cs]
  exact exec_frameInstr_of_valid (type := Config.TYPE_GYRO) hi hcs

/-- Settles O34: the arm of type code 0x53, whose period is the elapsed ticks as a number. -/
theorem frameAngleUpdates : Obligations.FrameAngleUpdates := by
  intro d cs s hi hcs
  rw [← axesOf_frameBuffer Config.TYPE_ANGLE d cs, ← field3_frameBuffer Config.TYPE_ANGLE d cs, ← elapsed_eq_ofNat]
  exact exec_frameInstr_of_valid (type := Config.TYPE_ANGLE) hi hcs

/-- Settles O35: the arm of type code 0x54. -/
theorem frameMagUpdates : Obligations.FrameMagUpdates := by
  intro d cs s hi hcs
  rw [← axesOf_frameBuffer Config.TYPE_MAG d cs, ← field3_frameBuffer Config.TYPE_MAG d cs]
  exact exec_frameInstr_of_valid (type := Config.TYPE_MAG) hi hcs

/-- Settles O36: the arm of type code 0x5F, and no arm. -/
theorem frameEchoAndOtherUpdates : Obligations.FrameEchoAndOtherUpdates := by
  intro type d cs s hi
  refine ⟨fun hcs => exec_frameInstr_of_valid (type := Config.TYPE_ECHO) hi hcs, fun _ _ _ _ _ hcs => ?_⟩
  rw [exec_of_initialised _ hi, effect, acceptFrame_of_valid _ _ _ ((checksumConstraintIsValidity type d cs).mpr hcs)]
  rfl

/-! ## Physical views -/

theorem accValue_eq (v : Half) : accValue v = (v.toInt : Rat) / 2048 := by
  rw [accValue, rawValue, s16_eq_toInt]
  norm_num [Config.ACC_NUM, Config.ACC_DEN]
  ring

theorem gyroValue_eq (v : Half) : gyroValue v = (v.toInt : Rat) * 125 / 2048 := by
  rw [gyroValue, rawValue, s16_eq_toInt]
  norm_num [Config.GYRO_NUM, Config.GYRO_DEN]
  ring

theorem angleValue_eq (v : Half) : angleValue v = (v.toInt : Rat) * 45 / 8192 := by
  rw [angleValue, rawValue, s16_eq_toInt]
  norm_num [Config.ANGLE_NUM, Config.ANGLE_DEN]
  ring

theorem magValue_eq (v : Half) : magValue v = (v.toInt : Rat) := by rw [magValue, rawValue, s16_eq_toInt]

theorem centiValue_eq (v : Half) : centiValue v = (v.toInt : Rat) / 100 := by
  rw [centiValue, rawValue, s16_eq_toInt]

theorem eq_of_toInt_cast_eq {v w : Half} (h : (v.toInt : Rat) = w.toInt) : v = w :=
  BitVec.eq_of_toInt_eq (by exact_mod_cast h)

/-- Settles O39: each view is the signed value times a number that is not 0. -/
theorem physicalViewsAreExact : Obligations.PhysicalViewsAreExact := by
  refine ⟨fun v => ⟨accValue_eq v, gyroValue_eq v, angleValue_eq v, magValue_eq v, centiValue_eq v⟩, fun v w h => ?_⟩
  apply eq_of_toInt_cast_eq
  simp only [accValue_eq, gyroValue_eq, angleValue_eq, magValue_eq, centiValue_eq] at h
  rcases h with h | h | h | h | h <;> linarith

/-! ## Quantisation -/

/-- The count just below a value in range fits 16 bits signed. -/
theorem toInt_ofInt_floor {x : Rat} (hlo : -32768 ≤ x) (hhi : x < 32768) : (BitVec.ofInt 16 ⌊x⌋).toInt = ⌊x⌋ := by
  have hfloor : -32768 ≤ ⌊x⌋ := Int.le_floor.mpr (by exact_mod_cast hlo)
  have hfloor' : ⌊x⌋ < 32768 := Int.floor_lt.mpr (by exact_mod_cast hhi)
  rw [BitVec.toInt_ofInt, Int.bmod_eq_of_le] <;> omega

/-- `c` counts to the unit: the value lies in the step that begins at its count. -/
theorem count_div_le_and_lt {v c : Rat} {w : Half} (hc : 0 < c) (hlo : -32768 ≤ v * c) (hhi : v * c < 32768)
    (hw : w = BitVec.ofInt 16 ⌊v * c⌋) : (w.toInt : Rat) / c ≤ v ∧ v < (w.toInt : Rat) / c + 1 / c := by
  rw [hw, toInt_ofInt_floor hlo hhi, ← add_div, div_le_iff₀ hc, lt_div_iff₀ hc]
  exact ⟨Int.floor_le _, Int.lt_floor_add_one _⟩

/-- Settles O40: the frame is valid by its checksum, and the register it writes is the count. -/
theorem quantisedValueRoundTrip : Obligations.QuantisedValueRoundTrip := by
  intro v d s hi
  refine ⟨fun hlo hhi hw => ?_, fun hlo hhi hw => ?_, fun hlo hhi hw => ?_⟩
  · refine ⟨_, frameAccUpdates d _ s hi rfl, ?_⟩
    have hstep := count_div_le_and_lt (c := 2048) (by norm_num) (by linarith) (by linarith) hw
    rwa [← accValue_eq] at hstep
  · refine ⟨_, frameGyroUpdates d _ s hi rfl, ?_⟩
    rw [mul_div_assoc] at hw
    have hstep := count_div_le_and_lt (c := 2048 / 125) (by norm_num) (by linarith) (by linarith) hw
    rwa [one_div_div, div_div_eq_mul_div, ← gyroValue_eq] at hstep
  · refine ⟨_, frameAngleUpdates d _ s hi rfl, ?_⟩
    rw [mul_div_assoc] at hw
    have hstep := count_div_le_and_lt (c := 8192 / 45) (by norm_num) (by linarith) (by linarith) hw
    rwa [one_div_div, div_div_eq_mul_div, ← angleValue_eq] at hstep

end Sys2Proof.Machine
end

section
/-! PROOF. The frame receiver below the eleventh position and over whole frames (40_frame_receiver.md R121 to R133). -/

namespace Sys2Proof.Machine

open Sys2Proof.Safety

/-! ## The checksum as a sum over positions -/

/-- What byte `j` contributes to the checksum. -/
def summand (buf : Vector Byte Config.RX_LEN) (j : Fin 10) : Nat := (buf[j.val]'(Nat.lt_succ_of_lt j.isLt)).toNat

theorem summand_lt (buf : Vector Byte Config.RX_LEN) (j : Fin 10) : summand buf j < 256 := BitVec.isLt _

theorem sum8_eq_sum (buf : Vector Byte Config.RX_LEN) : sum8 buf = u8 (∑ j, summand buf j) := by
  have htake : (buf.toList.take Config.SUM_LEN).map BitVec.toNat = List.ofFn (summand buf) := by
    apply List.ext_getElem
    · simp only [List.length_map, List.length_take, Vector.length_toList, List.length_ofFn]
      rfl
    · intro j _ _
      simp only [List.getElem_map, List.getElem_take, List.getElem_ofFn, Vector.getElem_toList, summand]
  rw [sum8, htake, List.sum_ofFn]

theorem frameValid_iff_sum (buf : Vector Byte Config.RX_LEN) :
    frameValid buf = true ↔ (∑ j, summand buf j) % 256 = (buf[10]'(by decide)).toNat := by
  rw [frameValid, beq_iff_eq, sum8_eq_sum, ← BitVec.toNat_inj, u8_toNat]

theorem summand_swap (buf : Vector Byte Config.RX_LEN) (j k : Fin 10) :
    summand (buf.swap j k (Nat.lt_succ_of_lt j.isLt) (Nat.lt_succ_of_lt k.isLt)) = summand buf ∘ Equiv.swap j k := by
  funext i
  simp only [summand, Vector.getElem_swap, Function.comp_apply, Equiv.swap_apply_def, Fin.ext_iff]
  split_ifs <;> rfl

theorem summand_set (buf : Vector Byte Config.RX_LEN) (k : Fin 10) (v : Byte) :
    summand (buf.set k v (Nat.lt_succ_of_lt k.isLt)) = Function.update (summand buf) k v.toNat := by
  funext i
  simp only [summand, Vector.getElem_set, Function.update_apply, Fin.ext_iff, @eq_comm _ i.val]
  split_ifs <;> rfl

/-- Settles O30: the ten positions are summed in another order, and the checksum byte is none of them. -/
theorem swappedBytesPass : Obligations.SwappedBytesPass := by
  intro buf j k
  have hsum : ∑ i, (summand buf ∘ Equiv.swap j k) i = ∑ i, summand buf i :=
    Equiv.sum_comp (Equiv.swap j k) (summand buf)
  rw [Bool.eq_iff_iff, frameValid_iff_sum, frameValid_iff_sum, summand_swap, hsum,
    Vector.getElem_swap_of_ne (by omega) (by omega)]

/-- Settles O29: a changed summand moves the sum by less than 256, and a changed checksum byte is compared whole. -/
theorem singleByteChangeIsDetected : Obligations.SingleByteChangeIsDetected := by
  intro buf k v hk hvalid hne
  rw [frameValid_iff_sum] at hvalid
  rw [← Bool.not_eq_true, frameValid_iff_sum]
  obtain rfl | hlt : k = 10 ∨ k < 10 := by omega
  · have hkept : summand (buf.set 10 v) = summand buf := by
      funext i
      simp only [summand, Vector.getElem_set_ne _ _ (show 10 ≠ i.val by omega)]
    rw [hkept, hvalid, Vector.getElem_set_self, BitVec.toNat_inj]
    exact hne.symm
  · have hold := Finset.add_sum_erase Finset.univ (summand buf) (Finset.mem_univ ⟨k, hlt⟩)
    have hnew := Finset.sum_update_of_mem (Finset.mem_univ ⟨k, hlt⟩) (summand buf) v.toNat
    rw [Finset.sdiff_singleton_eq_erase] at hnew
    have hbyte : v.toNat ≠ summand buf ⟨k, hlt⟩ := fun h => hne (BitVec.eq_of_toNat_eq h)
    have hsmall := summand_lt buf ⟨k, hlt⟩
    have hsmall' := v.isLt
    rw [summand_set buf ⟨k, hlt⟩ v, hnew, Vector.getElem_set_ne _ _ (by omega), ← hvalid, ← hold]
    omega

/-! ## Bytes of another transport -/

/-- Settles O19: the tag is tested before anything else (R262 (i)). -/
theorem transportMismatchHasNoEffect : Obligations.TransportMismatchHasNoEffect := by
  intro tag b now s hi htag
  rw [exec_rxByte tag b now hi, rxByte, if_pos htag]

/-! ## The eleventh byte -/

theorem set_ten_mk (b0 b1 b2 b3 b4 b5 b6 b7 b8 b9 old b : Byte) :
    (#v[b0, b1, b2, b3, b4, b5, b6, b7, b8, b9, old] : Vector Byte Config.RX_LEN).set 10 b =
      #v[b0, b1, b2, b3, b4, b5, b6, b7, b8, b9, b] := rfl

/-- Settles O23: the eleven bytes fail validation, so what is left is the byte stored and the cursor back at 0. -/
theorem invalidFrameIsDropped : Obligations.InvalidFrameIsDropped := by
  intro b0 b1 b2 b3 b4 b5 b6 b7 b8 b9 old b now s hi hc hbuf hsum
  rw [exec_rxByte_eleventh b now hi hc, hbuf, set_ten_mk, acceptFrame_of_invalid, State.collected, hbuf, set_ten_mk]
  · rfl
  · exact fun hvalid => hsum ((frameValid_mk_iff ..).mp hvalid)

/-! ## What a frame writes, as a function of what stood there -/

/-- Each register takes the same value in both, or keeps its own in both. -/
def SameOrKept (r r' u u' : SensorState) : Prop :=
  (u'.accRaw = u.accRaw ∨ u.accRaw = r.accRaw ∧ u'.accRaw = r'.accRaw) ∧
  (u'.gyroRaw = u.gyroRaw ∨ u.gyroRaw = r.gyroRaw ∧ u'.gyroRaw = r'.gyroRaw) ∧
  (u'.angleRaw = u.angleRaw ∨ u.angleRaw = r.angleRaw ∧ u'.angleRaw = r'.angleRaw) ∧
  (u'.magRaw = u.magRaw ∨ u.magRaw = r.magRaw ∧ u'.magRaw = r'.magRaw) ∧
  (u'.tempRaw = u.tempRaw ∨ u.tempRaw = r.tempRaw ∧ u'.tempRaw = r'.tempRaw) ∧
  (u'.voltRaw = u.voltRaw ∨ u.voltRaw = r.voltRaw ∧ u'.voltRaw = r'.voltRaw) ∧
  (u'.version = u.version ∨ u.version = r.version ∧ u'.version = r'.version) ∧
  (u'.lastFrameTs = u.lastFrameTs ∨ u.lastFrameTs = r.lastFrameTs ∧ u'.lastFrameTs = r'.lastFrameTs) ∧
  (u'.anglePeriod = u.anglePeriod ∨ u.anglePeriod = r.anglePeriod ∧ u'.anglePeriod = r'.anglePeriod) ∧
  (u'.echo = u.echo ∨ u.echo = r.echo ∧ u'.echo = r'.echo)

/-- The update writes whole registers, with values that do not depend on SensorState (R160). -/
def RegisterWise (g : SensorState → SensorState) : Prop := ∀ r r', SameOrKept r r' (g r) (g r')

theorem registerWise_id : RegisterWise id := by
  intro r r'
  simp [SameOrKept]

/-- The link timestamp is one more register written. -/
theorem RegisterWise.stamp {g : SensorState → SensorState} (hg : RegisterWise g) (now : Tick) :
    RegisterWise fun r => { g r with lastFrameTs := now } := by
  intro r r'
  obtain ⟨hacc, hgyro, hangle, hmag, htemp, hvolt, hversion, -, hperiod, hecho⟩ := hg r r'
  exact ⟨hacc, hgyro, hangle, hmag, htemp, hvolt, hversion, .inl rfl, hperiod, hecho⟩

/-- The decode of a frame is one register-wise update, settled by the bytes, the tick and `angle_ts` (R151, R160). -/
theorem decodeByType_update (buf : Vector Byte Config.RX_LEN) (now a : Tick) :
    ∃ g a', RegisterWise g ∧
      ∀ s : State, s.angleTs = a → decodeByType buf now s = { s with sensor := g s.sensor, angleTs := a' } := by
  unfold decodeByType
  split_ifs
  · exact ⟨fun r => { r with accRaw := axesOf buf, tempRaw := field3 buf }, a,
      by simp [RegisterWise, SameOrKept], by rintro s rfl; rfl⟩
  · exact ⟨fun r => { r with gyroRaw := axesOf buf, voltRaw := field3 buf }, a,
      by simp [RegisterWise, SameOrKept], by rintro s rfl; rfl⟩
  · exact ⟨fun r => { r with angleRaw := axesOf buf, version := field3 buf, anglePeriod := elapsed now a }, now,
      by simp [RegisterWise, SameOrKept], by rintro s rfl; rfl⟩
  · exact ⟨fun r => { r with magRaw := axesOf buf, tempRaw := field3 buf }, a,
      by simp [RegisterWise, SameOrKept], by rintro s rfl; rfl⟩
  · exact ⟨fun r => { r with echo := buf }, a, by simp [RegisterWise, SameOrKept], by rintro s rfl; rfl⟩
  · exact ⟨id, a, registerWise_id, by rintro s rfl; rfl⟩

theorem acceptFrame_update (buf : Vector Byte Config.RX_LEN) (now a : Tick) :
    ∃ g a', RegisterWise g ∧ ∀ s : State, s.angleTs = a →
      acceptFrame buf now (decodeByType buf now) s = { s with sensor := g s.sensor, angleTs := a' } := by
  by_cases hvalid : frameValid buf = true
  · obtain ⟨g, a', hg, h⟩ := decodeByType_update buf now a
    refine ⟨_, a', hg.stamp now, fun s hs => ?_⟩
    rw [acceptFrame_of_valid now _ s hvalid, h s hs]
    rfl
  · refine ⟨id, a, registerWise_id, ?_⟩
    rintro s rfl
    exact acceptFrame_of_invalid now _ s hvalid

/-- The frame word and the RXBYTE that completes the same eleven bytes at the same tick make one and the same update of
SensorState and `angle_ts` (R124, R151; log 6). -/
theorem frame_update (type : Byte) (d : Payload) (cs : Byte) (now a : Tick) :
    ∃ (g : SensorState → SensorState) (a' : Tick),
      (∀ s : State, s.initialised = true → s.angleTs = a → s.tickIn = now →
        exec (frameInstr type d cs) s = .next { s with sensor := g s.sensor, angleTs := a' }) ∧
      ∀ s : State, s.initialised = true → s.angleTs = a → s.rx.cursor = 10 →
        s.rx.buf.set 10 cs = frameBuffer type d cs →
        exec (.rxByte s.cfgTag cs now) s =
          .next { s with
            rx := { last := cs, buf := frameBuffer type d cs, cursor := 0 }
            sensor := g s.sensor
            angleTs := a'
            trace := s.trace ++ [.rxArm] } := by
  obtain ⟨g, a', -, h⟩ := acceptFrame_update (frameBuffer type d cs) now a
  refine ⟨g, a', fun s hi ha hn => ?_, fun s hi ha hc hbuf => ?_⟩
  · subst hn
    rw [exec_frameInstr type d cs hi, h s ha]
  · rw [exec_rxByte_eleventh cs now hi hc, State.collected, hbuf, h _ (by exact ha)]
    rfl

/-- Settles O25: the byte makes the update of the frame word. -/
theorem completedFrameRunsItsInstruction : Obligations.CompletedFrameRunsItsInstruction := by
  intro type d old b now s hi hc hbuf
  obtain ⟨g, a, hword, hbyte⟩ := frame_update type d b now s.angleTs
  exact ⟨_, hword _ hi rfl rfl, hbyte s hi rfl hc (by rw [hbuf]; rfl)⟩

/-! ## Below the eleventh position -/

theorem receiveByte_below {s : State} (b : Byte) (now : Tick) (h : s.rx.cursor.toNat < 10) :
    receiveByte b now s = s.pushByte b := by
  have hpartial : frameComplete (s.pushByte b) = false := by
    rw [← Bool.not_eq_true, frameComplete_iff, pushByte_rx]
    bv_omega
  simp only [receiveByte, hpartial]
  rfl

/-- A received byte below the eleventh position is stored at the cursor, which advances (R123). -/
theorem rxByte_below {s : State} {b : Byte} (now : Tick) (hc : s.rx.cursor.toNat < 10)
    (hb : s.rx.cursor ≠ 0 ∨ b = 0x55) :
    rxByte s.cfgTag b now s =
      { s with
        rx := { last := b, buf := s.rx.buf.setIfInBounds s.rx.cursor.toNat b, cursor := s.rx.cursor + 1 }
        trace := s.trace ++ [.rxArm] } := by
  rw [rxByte_of_received now hb, receiveByte_below b now (by exact hc)]
  rfl

/-- Settles O21: a cursor below 10 stays below 11 when it advances. -/
theorem acceptedByteIsAppended : Obligations.AcceptedByteIsAppended := by
  intro b now s k hi hk hlt hb
  have hreceived : s.rx.cursor ≠ 0 ∨ b = 0x55 := by
    refine hb.imp_left fun hne h0 => hne ?_
    rw [← hk, h0]
    rfl
  refine ⟨_, exec_rxByte _ b now hi, ?_⟩
  rw [rxByte_below now (by omega) hreceived]
  refine ⟨rfl, rfl, ?_, fun j hj => ?_⟩
  · bv_omega
  · simp only [Vector.getElem_setIfInBounds, hk, @eq_comm _ k j]

/-! ## Several bytes -/

theorem deliver_append (tag : Tag) (xs ys : List (Byte × Tick)) :
    deliver tag (xs ++ ys) = deliver tag xs ++ deliver tag ys :=
  List.map_append

theorem takeEvent_rxByte {s : State} (tag : Tag) (b : Byte) (now : Tick) (h : s.initialised = true) :
    takeEvent (.rxByte tag b now) s = .next (rxByte tag b now (s.sampleTick (some now))) :=
  exec_rxByte (s := s.sampleTick (some now)) tag b now h

/-- The state after `k` accepted bytes that complete no frame, the last at tick `n`. -/
def State.received (s : State) (x : ReceiveBuffer) (n : Tick) (k : Nat) : State :=
  { s with rx := x, tickIn := n, trace := s.trace ++ List.replicate k .rxArm }

@[simp] theorem received_rx (s : State) (x : ReceiveBuffer) (n : Tick) (k : Nat) : (s.received x n k).rx = x := rfl

@[simp] theorem received_received (s : State) (x y : ReceiveBuffer) (n m : Tick) (k l : Nat) :
    (s.received x n k).received y m l = s.received y m (k + l) := by
  simp [State.received, List.append_assoc]

theorem received_zero (s : State) : s.received s.rx s.tickIn 0 = s := by simp [State.received]

/-- An accepted byte below the eleventh position as an event of its own. -/
theorem takeEvent_rxByte_below {s : State} {b : Byte} (now : Tick) (hi : s.initialised = true)
    (hc : s.rx.cursor.toNat < 10) (hb : s.rx.cursor ≠ 0 ∨ b = 0x55) :
    takeEvent (.rxByte s.cfgTag b now) s =
      .next (s.received { last := b, buf := s.rx.buf.setIfInBounds s.rx.cursor.toNat b, cursor := s.rx.cursor + 1 } now
        1) :=
  (takeEvent_rxByte s.cfgTag b now hi).trans (congrArg _ (rxByte_below (s := s.sampleTick (some now)) now hc hb))

/-- Storing a byte at position `k` extends what the first `k` positions hold. -/
theorem take_succ_setIfInBounds (buf : Vector Byte Config.RX_LEN) {k : Nat} (hk : k < 11) (b : Byte) :
    (buf.setIfInBounds k b).toList.take (k + 1) = buf.toList.take k ++ [b] := by
  have hlen : k < buf.toList.length := by simpa using hk
  rw [Vector.toList_setIfInBounds, List.take_succ_eq_append_getElem (by simpa using hlen), List.take_set_of_le le_rfl,
    List.getElem_set_self]

/-- Bytes that do not reach the eleventh position are stored from the cursor on, one rx_arm each (R123, R131, R132). -/
theorem takeEvents_deliver_below (bytes : List (Byte × Tick)) (s : State) (hi : s.initialised = true)
    (hlen : s.rx.cursor.toNat + bytes.length ≤ 10) (hfirst : s.rx.cursor ≠ 0 ∨ ∀ p ∈ bytes.head?, p.1 = 0x55) :
    ∃ x n, takeEvents (deliver s.cfgTag bytes) s = .next (s.received x n bytes.length) ∧
      x.cursor.toNat = s.rx.cursor.toNat + bytes.length ∧
      x.buf.toList.take x.cursor.toNat = s.rx.buf.toList.take s.rx.cursor.toNat ++ bytes.map Prod.fst := by
  induction bytes generalizing s with
  | nil => exact ⟨s.rx, s.tickIn, by rw [List.length_nil, received_zero]; rfl, rfl, by simp⟩
  | cons p ps ih =>
    obtain ⟨b, now⟩ := p
    rw [List.length_cons] at hlen
    have hbyte : s.rx.cursor ≠ 0 ∨ b = 0x55 := hfirst.imp_right fun h => h (b, now) rfl
    have hcursor : (s.rx.cursor + 1).toNat = s.rx.cursor.toNat + 1 := by bv_omega
    have hstarted : s.rx.cursor + 1 ≠ 0 := by bv_omega
    have hevent := takeEvent_rxByte_below now hi (by omega) hbyte
    generalize hu : s.received _ now 1 = u at hevent
    have hrx : u.rx.cursor.toNat = s.rx.cursor.toNat + 1 := by rw [← hu]; exact hcursor
    have htaken : u.rx.buf.toList.take u.rx.cursor.toNat = s.rx.buf.toList.take s.rx.cursor.toNat ++ [b] := by
      rw [hrx, ← hu]
      exact take_succ_setIfInBounds _ (by omega) b
    obtain ⟨x, n, hrun, hend, hbuf⟩ := ih u (by rw [← hu]; exact hi) (by omega) (.inl (by rw [← hu]; exact hstarted))
    refine ⟨x, n, ?_, by rw [hend, hrx, List.length_cons]; omega, by rw [hbuf, htaken]; simp⟩
    refine (takeEvents_cons_next hevent).trans ?_
    rw [← hu] at hrun ⊢
    rw [received_received, Nat.add_comm] at hrun
    exact hrun

/-! ## Whole frames -/

theorem set_ten_eq_of_take (v w : Vector Byte Config.RX_LEN) (b : Byte) (h : v.toList.take 10 ++ [b] = w.toList) :
    v.set 10 b = w := by
  apply Vector.toList_inj.mp
  have hlen : v.toList.length = 11 := Vector.length_toList
  rw [← h, Vector.toList_set, List.set_eq_take_append_cons_drop, if_pos (by omega), List.drop_of_length_le (by omega)]

/-- Settles O26: ten bytes are stored, and the eleventh completes the buffer they make. -/
theorem elevenBytesReceiveOneFrame : Obligations.ElevenBytesReceiveOneFrame := by
  intro type d cs t0 t1 t2 t3 t4 t5 t6 t7 t8 t9 t10 s hi hc
  obtain ⟨g, a, hword, hbyte⟩ := frame_update type d cs t10 s.angleTs
  obtain ⟨x, n, hrun, hend, hbuf⟩ := takeEvents_deliver_below
    [(0x55, t0), (type, t1), (d.d0, t2), (d.d1, t3), (d.d2, t4), (d.d3, t5), (d.d4, t6), (d.d5, t7), (d.d6, t8),
      (d.d7, t9)]
    s hi (by rw [hc]; exact le_rfl) (.inr (by simp))
  have hcursor : x.cursor = 10 := by
    apply BitVec.eq_of_toNat_eq
    rw [hend, hc]
    rfl
  have hfull : x.buf.set 10 cs = frameBuffer type d cs := by
    apply set_ten_eq_of_take
    rw [hcursor, hc] at hbuf
    rw [show x.buf.toList.take 10 = _ from hbuf]
    rfl
  have htrace : s.trace ++ List.replicate 10 .rxArm ++ [.rxArm] = s.trace ++ List.replicate 11 Action.rxArm :=
    List.append_assoc ..
  refine ⟨_, hword { s with tickIn := t10 } hi rfl rfl, ?_⟩
  rw [← htrace]
  refine (takeEvents_append_next hrun [.rxByte s.cfgTag cs t10]).trans ?_
  exact takeEvents_cons_next (hbyte ((s.received x n 10).sampleTick (some t10)) hi rfl hcursor hfull)

/-! ## Bytes without a frame -/

/-- Settles O27: every byte meets the receiver at cursor 0 and is discarded. -/
theorem noSyncNoFrame : Obligations.NoSyncNoFrame := by
  intro bytes
  induction bytes with
  | nil => exact fun s _ hc _ => ⟨s, rfl, by simp, hc, rfl, rfl⟩
  | cons p ps ih =>
    intro s hi hc hbytes
    obtain ⟨b, now⟩ := p
    have hevent : takeEvent (.rxByte s.cfgTag b now) s = .next (s.received { s.rx with last := b } now 1) :=
      nonSyncByteIsDiscarded b now (s.sampleTick (some now)) hi hc (hbytes (b, now) List.mem_cons_self)
    obtain ⟨t, hrun, ht, hcursor, hbuf, hlast⟩ :=
      ih (s.received { s.rx with last := b } now 1) hi hc fun p hp => hbytes p (List.mem_cons_of_mem _ hp)
    refine ⟨t, (takeEvents_cons_next hevent).trans hrun, ?_, hcursor, hbuf, ?_⟩
    · exact ht.trans (by simp [State.received, List.replicate_succ])
    · rw [hlast]
      simp [List.getLast?_cons]

/-! ## A false lock -/

/-- An eleventh byte that fails the checksum drops the frame, as an event of its own (R129). -/
theorem takeEvent_rxByte_invalid {s : State} {b : Byte} (now : Tick) (hi : s.initialised = true)
    (hc : s.rx.cursor = 10) (hbad : frameValid (s.rx.buf.set 10 b) ≠ true) :
    takeEvent (.rxByte s.cfgTag b now) s =
      .next (s.received { last := b, buf := s.rx.buf.set 10 b, cursor := 0 } now 1) := by
  have hexec := exec_rxByte_eleventh (s := s.sampleTick (some now)) b now hi hc
  rw [acceptFrame_of_invalid _ _ _ (by exact hbad)] at hexec
  exact hexec

/-- The frame `55 52 55 00 00 00 00 00 00 00 FC` of V-RX-9, all its bytes at one tick. -/
def trueFrame (now : Tick) : List (Byte × Tick) :=
  [(0x55, now), (0x52, now), (0x55, now), (0, now), (0, now), (0, now), (0, now), (0, now), (0, now), (0, now),
    (0xFC, now)]

/-- The receiver is nine bytes into the false frame of V-RX-9. -/
def FalselyLocked (x : ReceiveBuffer) : Prop :=
  x.cursor = 9 ∧ x.buf.toList.take 9 = [0x55, 0, 0, 0, 0, 0, 0, 0, 0xFC]

/-- One true frame: its first two bytes complete a false frame that fails the checksum, and its last nine begin the next
false frame. -/
theorem takeEvents_deliver_trueFrame {s : State} (now : Tick) (hi : s.initialised = true) (hlock : FalselyLocked s.rx) :
    ∃ x n, FalselyLocked x ∧ takeEvents (deliver s.cfgTag (trueFrame now)) s = .next (s.received x n 11) := by
  obtain ⟨hcursor, htaken⟩ := hlock
  obtain ⟨x, n, hrun, hten, hbuf⟩ :=
    takeEvents_deliver_below [(0x55, now)] s hi (by rw [hcursor]; exact le_rfl) (.inr (by simp))
  have hx : x.cursor = 10 := BitVec.eq_of_toNat_eq (hten.trans (by rw [hcursor]; rfl))
  rw [hx, hcursor, show s.rx.buf.toList.take (9 : BitVec 4).toNat = _ from htaken] at hbuf
  have hfalse : x.buf.set 10 0x52 = #v[0x55, 0, 0, 0, 0, 0, 0, 0, 0xFC, 0x55, 0x52] := by
    apply set_ten_eq_of_take
    rw [show x.buf.toList.take 10 = _ from hbuf]
    rfl
  have hdropped := takeEvent_rxByte_invalid (s := s.received x n 1) (b := 0x52) now hi hx (by
    rw [received_rx, hfalse]
    decide)
  rw [received_received] at hdropped
  generalize hz : ({ last := 0x52, buf := _, cursor := 0 } : ReceiveBuffer) = z at hdropped
  have hempty : z.cursor = 0 := by rw [← hz]
  obtain ⟨y, m, hrest, hnine, hbuf'⟩ := takeEvents_deliver_below ((trueFrame now).drop 2)
    (s.received z now (1 + 1)) hi (by rw [received_rx, hempty]; simp [trueFrame]) (.inr (by simp [trueFrame]))
  have hy : y.cursor = 9 := BitVec.eq_of_toNat_eq (hnine.trans (by rw [received_rx, hempty]; rfl))
  rw [hy, received_rx, hempty] at hbuf'
  refine ⟨y, m, ⟨hy, hbuf'⟩, ?_⟩
  rw [received_received] at hrest
  exact (takeEvents_append_next hrun _).trans ((takeEvents_cons_next hdropped).trans hrest)

/-- Settles O28: by induction on the repetitions, each of which leads from the false lock back into it. -/
theorem falseLockPersists : Obligations.FalseLockPersists := by
  intro n now s x y hi hc hbuf
  suffices h : ∀ n (s : State), s.initialised = true → FalselyLocked s.rx →
      ∃ x t k, FalselyLocked x ∧
        takeEvents (deliver s.cfgTag (List.replicate n (trueFrame now)).flatten) s = .next (s.received x t k) by
    obtain ⟨x, t, k, ⟨hcursor, -⟩, hrun⟩ := h n s hi ⟨hc, by rw [hbuf]; rfl⟩
    exact ⟨_, hrun, hcursor, rfl, rfl⟩
  intro n
  induction n with
  | zero => exact fun s _ hlock => ⟨s.rx, s.tickIn, 0, hlock, by rw [received_zero]; rfl⟩
  | succ n ih =>
    intro s hi hlock
    obtain ⟨x, t, hlock', hround⟩ := takeEvents_deliver_trueFrame now hi hlock
    obtain ⟨y, u, l, hlock'', hrest⟩ := ih (s.received x t 11) hi hlock'
    refine ⟨y, u, 11 + l, hlock'', ?_⟩
    rw [List.replicate_succ, List.flatten_cons, deliver_append, takeEvents_append_next hround]
    rw [received_received] at hrest
    exact hrest

/-! ## What a byte depends on -/

theorem receiveByte_update (b : Byte) (now : Tick) (x : ReceiveBuffer) (a : Tick) :
    ∃ (g : SensorState → SensorState) (a' : Tick) (x' : ReceiveBuffer), RegisterWise g ∧
      ∀ s : State, s.rx = x → s.angleTs = a →
        receiveByte b now s = { s with rx := x', sensor := g s.sensor, angleTs := a' } := by
  by_cases hfull : x.cursor + 1 = 11
  · obtain ⟨g, a', hg, h⟩ := acceptFrame_update (x.buf.setIfInBounds x.cursor.toNat b) now a
    refine ⟨g, a', { x with buf := x.buf.setIfInBounds x.cursor.toNat b, cursor := 0 }, hg, ?_⟩
    rintro s rfl rfl
    have hready : frameComplete (s.pushByte b) = true := (frameComplete_iff _).mpr hfull
    simp only [receiveByte, hready, if_true]
    exact h (s.pushByte b).clearCursor rfl
  · refine ⟨id, a, { x with buf := x.buf.setIfInBounds x.cursor.toNat b, cursor := x.cursor + 1 }, registerWise_id, ?_⟩
    rintro s rfl rfl
    have hpartial : ¬ frameComplete (s.pushByte b) = true := fun h => hfull ((frameComplete_iff _).mp h)
    simp only [receiveByte, if_neg hpartial]
    rfl

/-- What a byte does to the receiver side is settled by the byte, `cfg_tag`, the ReceiveBuffer and `angle_ts` (R160). -/
theorem rxByte_update (tag : Tag) (b : Byte) (now : Tick) (c : Tag) (x : ReceiveBuffer) (a : Tick) :
    ∃ (g : SensorState → SensorState) (a' : Tick) (x' : ReceiveBuffer), RegisterWise g ∧
      ∀ s : State, s.cfgTag = c → s.rx = x → s.angleTs = a →
        (rxByte tag b now s).rx = x' ∧ (rxByte tag b now s).sensor = g s.sensor ∧
          (rxByte tag b now s).angleTs = a' := by
  by_cases htag : tag = c
  · subst htag
    by_cases hb : x.cursor ≠ 0 ∨ b = 0x55
    · obtain ⟨g, a', x', hg, h⟩ := receiveByte_update b now { x with last := b } a
      refine ⟨g, a', x', hg, ?_⟩
      rintro s rfl rfl rfl
      rw [rxByte_of_received now hb, h (s.setRxLast b) rfl rfl]
      exact ⟨rfl, rfl, rfl⟩
    · refine ⟨id, a, { x with last := b }, registerWise_id, ?_⟩
      rintro s rfl rfl rfl
      obtain ⟨hcursor, hsync⟩ := not_or.mp hb
      rw [rxByte_of_discarded now (not_not.mp hcursor) hsync]
      exact ⟨rfl, rfl, rfl⟩
  · refine ⟨id, a, x, registerWise_id, ?_⟩
    rintro s rfl rfl rfl
    rw [rxByte, if_pos htag]
    exact ⟨rfl, rfl, rfl⟩

/-- Settles O38: the two states agree on everything the update of the receiver side is settled by and applied to. -/
theorem decodeIgnoresTransmitter : Obligations.DecodeIgnoresTransmitter := by
  intro tag b now s s' t t' hcfg hrx hsensor hangle ht ht'
  obtain ⟨rfl, -⟩ := exec_eq_next ht
  obtain ⟨rfl, -⟩ := exec_eq_next ht'
  obtain ⟨g, a, x, -, h⟩ := rxByte_update tag b now s.cfgTag s.rx s.angleTs
  obtain ⟨hx, hg, ha⟩ := h s rfl rfl rfl
  obtain ⟨hx', hg', ha'⟩ := h s' hcfg hrx hangle
  exact ⟨hx'.trans hx.symm, by rw [effect, effect, hg', hg, hsensor], ha'.trans ha.symm⟩

/-- Settles O60: the update of SensorState is register-wise, and the same one from both states. -/
theorem decodeIgnoresEarlierFrames : Obligations.DecodeIgnoresEarlierFrames := by
  intro tag b now s s' t t' hcfg hrx hangle ht ht'
  obtain ⟨rfl, -⟩ := exec_eq_next ht
  obtain ⟨rfl, -⟩ := exec_eq_next ht'
  obtain ⟨g, a, x, hwise, h⟩ := rxByte_update tag b now s.cfgTag s.rx s.angleTs
  obtain ⟨hx, hg, ha⟩ := h s rfl rfl rfl
  obtain ⟨hx', hg', ha'⟩ := h s' hcfg hrx hangle
  refine ⟨hx'.trans hx.symm, ha'.trans ha.symm, ?_⟩
  rw [effect, effect, hg', hg]
  exact hwise s.sensor s'.sensor

end Sys2Proof.Machine
end

section
/-! PROOF. The invariants I1 to I4 (10_state.md R52): INIT establishes them and every step keeps them. -/

namespace Sys2Proof.Machine

open Sys2Proof.Safety

/-! ## What the invariants look at -/

/-- The invariants speak of the ReceiveBuffer, the echo and the outgoing command, and of nothing else. -/
theorem blockInv_of_eq {s t : State} (h : BlockInv s) (hrx : t.rx = s.rx) (hecho : t.sensor.echo = s.sensor.echo)
    (htx : t.tx = s.tx) : BlockInv t := by
  obtain ⟨hcursor, hsync, hcommand, hframe⟩ := h
  unfold BlockInv CursorInRange FrameBeginsWithSync CommandHasHeader EchoIsFrame
  rw [hrx, hecho, htx]
  exact ⟨hcursor, hsync, hcommand, hframe⟩

theorem cursorInRange_of_empty {s : State} (h : s.rx.cursor = 0) : CursorInRange s := by
  rw [CursorInRange, h]
  decide

/-- Settles O16: every register the invariants look at is 0, and no command is in flight. -/
theorem initEstablishesInvariants : Obligations.InitEstablishesInvariants := by
  have hreset : BlockInv State.reset :=
    ⟨cursorInRange_of_empty rfl, fun h => absurd rfl h, fun h => absurd rfl h, .inl rfl⟩
  refine ⟨hreset, fun tag s t h => ?_⟩
  cases h
  exact blockInv_of_eq hreset rfl rfl rfl

/-- Settles O17: the registers of INIT, written out. -/
theorem initResetsEveryRegister : Obligations.InitResetsEveryRegister := fun _ _ => rfl

/-- Settles O18: what INIT leaves alone stands already at its reset value. -/
theorem resetIsInitZero : Obligations.ResetIsInitZero := by
  intro s htrace htick hscript
  rw [exec_init, initialise, htrace, htick, hscript]
  rfl

/-! ## The echo -/

/-- A frame whose arm leaves the echo alone, or stores its own bytes under the echo type code, keeps I4. -/
theorem echoIsFrame_acceptFrame {buf : Vector Byte Config.RX_LEN} {now : Tick} {arm : State → State} {s : State}
    (h : EchoIsFrame s) (harm : (arm s).sensor.echo = s.sensor.echo ∨
      (buf[0] = Config.SYNC ∧ buf[1] = Config.TYPE_ECHO ∧ (arm s).sensor.echo = buf)) :
    EchoIsFrame (acceptFrame buf now arm s) := by
  rcases acceptFrame_cases buf now arm s with ⟨hvalid, e⟩ | ⟨-, e⟩
  · unfold EchoIsFrame
    rw [e, stampLink_sensor]
    rcases harm with hkept | ⟨hsync, htype, hstored⟩
    · simp only [hkept]
      exact h
    · simp only [hstored]
      exact .inr ⟨hsync, htype, hvalid⟩
  · rw [e]
    exact h

theorem echo_decodeByType {buf : Vector Byte Config.RX_LEN} (now : Tick) (s : State) (hsync : buf[0] = Config.SYNC) :
    (decodeByType buf now s).sensor.echo = s.sensor.echo ∨
      (buf[0] = Config.SYNC ∧ buf[1] = Config.TYPE_ECHO ∧ (decodeByType buf now s).sensor.echo = buf) := by
  rcases decodeByType_cases buf now s with e | e | e | e | ⟨htype, e⟩ | e
  case inr.inr.inr.inr.inl =>
    rw [e]
    exact .inr ⟨hsync, htype, rfl⟩
  all_goals
    rw [e]
    exact .inl rfl

/-! ## Frame words -/

theorem blockInv_acceptFrame {buf : Vector Byte Config.RX_LEN} {now : Tick} {arm : State → State} {s : State}
    (h : BlockInv s) (hframe : ∃ r a, arm s = { s with sensor := r, angleTs := a })
    (harm : (arm s).sensor.echo = s.sensor.echo ∨
      (buf[0] = Config.SYNC ∧ buf[1] = Config.TYPE_ECHO ∧ (arm s).sensor.echo = buf)) :
    BlockInv (acceptFrame buf now arm s) := by
  obtain ⟨hcursor, hsync, hcommand, hecho⟩ := h
  have hecho' : EchoIsFrame (acceptFrame buf now arm s) := echoIsFrame_acceptFrame hecho harm
  obtain ⟨r, a, e⟩ := acceptFrame_frame buf now arm s hframe
  rw [e] at hecho' ⊢
  exact ⟨hcursor, hsync, hcommand, hecho'⟩

/-! ## Bytes -/

/-- Storing a byte that a frame may begin with, or go on with, keeps the first byte of the frame. -/
theorem buf_zero_pushByte {s : State} {b : Byte} (hsync : FrameBeginsWithSync s) (hb : s.rx.cursor ≠ 0 ∨ b = 0x55) :
    (s.pushByte b).rx.buf[0] = Config.SYNC := by
  rw [pushByte_rx, Vector.getElem_setIfInBounds]
  split_ifs with h0
  · have hzero : s.rx.cursor = 0 := BitVec.eq_of_toNat_eq h0
    exact hb.resolve_left (not_not.mpr hzero)
  · exact hsync fun hzero => h0 (by rw [hzero]; rfl)

theorem blockInv_receiveByte {s : State} {b : Byte} (now : Tick) (h : BlockInv s) (hb : s.rx.cursor ≠ 0 ∨ b = 0x55) :
    BlockInv (receiveByte b now s) := by
  obtain ⟨hcursor, hsync, hcommand, hecho⟩ := h
  have hfirst := buf_zero_pushByte hsync hb
  by_cases hfull : frameComplete (s.pushByte b) = true
  · simp only [receiveByte, hfull, if_true, frameReady]
    refine blockInv_acceptFrame ⟨cursorInRange_of_empty rfl, fun hne => absurd rfl hne, hcommand, hecho⟩
      (decodeByType_frame ..) ?_
    exact echo_decodeByType now _ hfirst
  · simp only [receiveByte, if_neg hfull]
    refine ⟨?_, fun _ => hfirst, hcommand, hecho⟩
    rw [frameComplete_iff, pushByte_rx] at hfull
    simp only [CursorInRange, pushByte_rx, Config.RX_LEN] at hcursor ⊢
    bv_omega

theorem blockInv_rxByte {s : State} (tag : Tag) (b : Byte) (now : Tick) (h : BlockInv s) :
    BlockInv (rxByte tag b now s) := by
  have hlast : BlockInv (s.setRxLast b) := h
  rcases rxByte_cases tag b now s with ⟨-, e⟩ | ⟨-, -, -, e⟩ | ⟨-, hb, e⟩
  · rw [e]
    exact h
  · rw [e]
    exact hlast
  · rw [e]
    exact blockInv_receiveByte now hlast hb

/-! ## Every instruction -/

theorem blockInv_effect_frame {i : Instr} {s : State} (hi : isFrame i = true) (h : BlockInv s) :
    BlockInv (effect i s) := by
  cases i
  case frameAcc | frameGyro | frameAngle | frameMag => exact blockInv_acceptFrame h ⟨_, _, rfl⟩ (.inl rfl)
  case frameEcho => exact blockInv_acceptFrame h ⟨_, _, rfl⟩ (.inr ⟨rfl, rfl, rfl⟩)
  case frameOther => exact blockInv_acceptFrame h ⟨_, _, rfl⟩ (.inl rfl)
  all_goals cases hi

/-- A command in flight keeps its header: it is stored with one, and no other change touches its bytes (I3). -/
theorem commandHasHeader_of_change {i : Instr} {s t : State} (hchange : Change i s t) (h : CommandHasHeader s) :
    CommandHasHeader t := by
  cases hchange
  case byte tag b now hi ht =>
    rcases rxByte_frame tag b now s with e | ⟨_, _, _, e⟩ <;> exact (ht.trans e) ▸ h
  case watchdog now hi ht =>
    rcases checkWatchdog_cases now s with ⟨-, -, e⟩ | ⟨-, e⟩ <;> exact (ht.trans e) ▸ h
  case accepted => subst_vars; exact fun _ => ⟨rfl, rfl⟩
  case unlock hp ht | command hp ht => subst ht; exact fun _ => h (by simp [hp])
  case finished hp ht => subst ht; exact fun hne => absurd rfl hne
  case frame | busy | waiting => subst_vars; exact h

/-- Every instruction keeps the invariants. -/
theorem exec_keeps_blockInv {i : Instr} {s t : State} (h : BlockInv s) (hexec : exec i s = .next t) : BlockInv t := by
  by_cases hinit : ∃ tag, i = .init tag
  · obtain ⟨tag, rfl⟩ := hinit
    exact initEstablishesInvariants.2 tag s t hexec
  have hchange := exec_change (not_exists.mp hinit) hexec
  obtain ⟨hcursor, hsync, hcommand, hecho⟩ := id h
  have hcommand' := commandHasHeader_of_change hchange hcommand
  cases hchange
  case frame hi _ _ _ =>
    obtain ⟨rfl, -⟩ := exec_eq_next hexec
    exact blockInv_effect_frame hi h
  case byte tag b now _ ht => exact ht ▸ blockInv_rxByte tag b now h
  case watchdog now _ ht =>
    subst ht
    rcases checkWatchdog_cases now s with ⟨-, -, e⟩ | ⟨-, e⟩ <;> rw [e]
    · exact ⟨cursorInRange_of_empty rfl, fun hne => absurd rfl hne, hcommand, hecho⟩
    · exact h
  case busy | accepted | waiting | unlock | command | finished =>
    subst_vars
    exact ⟨hcursor, hsync, hcommand', hecho⟩

/-- Settles O15: a step is nothing, or one instruction on the rest of the script, which the invariants do not look
at. -/
theorem stepKeepsInvariants : Obligations.StepKeepsInvariants := by
  intro s t h hstep
  unfold step at hstep
  split at hstep
  · cases hstep
    exact h
  · split at hstep
    next i _ =>
      have hsampled : BlockInv (s.popScript.sampleTick i.now?) := blockInv_of_eq h rfl rfl rfl
      rw [takeEvent] at hstep
      exact exec_keeps_blockInv hsampled hstep
    · cases hstep

end Sys2Proof.Machine
end

section
/-! PROOF. The command transmitter over its stages and over runs of events (42_command_transmitter.md R184 to R196,
43_command_catalog.md R210 to R215, 20_memory.md R74 to R77). -/

namespace Sys2Proof.Machine

open Sys2Proof.Safety

/-! ## One event -/

/-- Settles O43: each wrapper's meaning is ISSUE's on its register. -/
theorem wrappersAreIssue : Obligations.WrappersAreIssue := fun _ _ => ⟨rfl, rfl, rfl, rfl, rfl⟩

/-- The value read back from the two bytes it was stored in (C10). -/
theorem pair_valLow_valHigh (val : Half) : pair (valLow val) (valHigh val) = val := by
  rw [pair_eq_append]
  exact join16_byteOf val

/-- Settles O44: the wrapper runs as its ISSUE, which in Idle stores the command. -/
theorem wrappersStoreTheirCommand : Obligations.WrappersStoreTheirCommand := by
  intro i reg val s hi hissued hp
  refine ⟨(s.storeCommand reg val).emit (.status .ok), ?_, rfl, rfl, rfl, rfl, rfl, rfl, pair_valLow_valHigh val⟩
  rw [exec_of_issued s hissued, exec_issue reg val hi, issueCommand_of_idle reg val hp]

/-- Settles O47: DRIVE takes its UnlockSent branch. -/
theorem driveSendsCommand : Obligations.DriveSendsCommand := by
  intro now s hi hp
  rw [exec_drive now hi, drive_of_unlockSent now hp]
  rfl

/-- Settles O48: DRIVE takes its CommandSent branch. -/
theorem driveCompletesCommand : Obligations.DriveCompletesCommand := by
  intro now s hi hp
  rw [exec_drive now hi, drive_of_commandSent now hp]
  rfl

theorem emitsUnlock_iff (s : State) : emitsUnlock s = true ↔ s.tx.progress = .unlockPending := by
  simp [emitsUnlock]

theorem emitsCommand_iff (now : Tick) (frame : Vector Byte Config.TX_LEN) (s : State) :
    emitsCommand now frame s = true ↔
      s.tx.progress = .unlockSent ∧ 10 ≤ ticksBetween now s.tx.ts ∧ s.tx.frame = frame := by
  simp only [emitsCommand, Bool.and_eq_true, beq_iff_eq, gapElapsed_iff, and_assoc]

/-- TX.UNLOCK in UnlockPending is DRIVE's emission there (R191; log 8). -/
theorem exec_txUnlock_of_unlockPending {s : State} (hi : s.initialised = true) (hp : s.tx.progress = .unlockPending) :
    exec .txUnlock s = .next (sendUnlock s.tickIn s) := by
  rw [exec_of_initialised _ hi, effect, if_pos ((emitsUnlock_iff s).mpr hp)]

/-- TX.COMMAND with the stored bytes, past the window of UnlockSent, is DRIVE's emission there (R192; log 8). -/
theorem exec_txCommand_of_emits {s : State} {reg valLo valHi : Byte} (hi : s.initialised = true)
    (hemits : s.tx.progress = .unlockSent ∧ 10 ≤ ticksBetween s.tickIn s.tx.ts ∧
      s.tx.frame = #v[0xFF, 0xAA, reg, valLo, valHi]) :
    exec (.txCommand reg valLo valHi) s = .next (sendCommand s.tickIn s) := by
  rw [exec_of_initialised _ hi, effect, if_pos ((emitsCommand_iff ..).mpr hemits)]

/-- Settles O49: where a row emits, DRIVE takes the branch of the same emission; elsewhere the row's test fails. -/
theorem outboundRowsAreDriveEmissions : Obligations.OutboundRowsAreDriveEmissions := by
  intro reg valLo valHi s hi
  refine ⟨fun hp => ?_, fun hp => ?_, fun hemits => ?_, fun hsilent => ?_⟩
  · rw [exec_txUnlock_of_unlockPending hi hp, exec_drive _ hi, drive_of_unlockPending _ hp]
    exact ⟨rfl, rfl⟩
  · rw [exec_of_initialised _ hi, effect, if_neg fun h => hp ((emitsUnlock_iff s).mp h)]
  · obtain ⟨hp, hgap, hframe⟩ := id hemits
    rw [exec_txCommand_of_emits hi hemits, exec_drive _ hi, drive_of_unlockSent _ hp, if_pos hgap, ← hframe]
    exact ⟨rfl, rfl⟩
  · rw [exec_of_initialised _ hi, effect, if_neg fun h => hsilent ((emitsCommand_iff ..).mp h)]

/-! ## What a change does to the transmitter -/

theorem rxByte_tx (tag : Tag) (b : Byte) (now : Tick) (s : State) : (rxByte tag b now s).tx = s.tx := by
  rcases rxByte_frame tag b now s with e | ⟨_, _, _, e⟩ <;> rw [e]

theorem checkWatchdog_tx (now : Tick) (s : State) : (checkWatchdog now s).tx = s.tx := by
  rcases checkWatchdog_cases now s with ⟨-, -, e⟩ | ⟨-, e⟩ <;> rw [e]
  rfl

/-- Settles O50: the changes that touch `tx_progress` are acceptance and the three of DRIVE. -/
theorem transmitterTransitions : Obligations.TransmitterTransitions := by
  intro i s t hinit h
  cases exec_change hinit h
  case byte tag b now _ ht => exact .inl (by rw [ht, rxByte_tx])
  case watchdog now _ ht => exact .inl (by rw [ht, checkWatchdog_tx])
  case frame ht | busy ht | waiting ht => exact .inl (by subst ht; rfl)
  case accepted reg val hi hp ht => exact .inr (.inl ⟨hp, by rw [ht]; rfl, by rw [hi]; rfl, by rw [ht]; rfl⟩)
  case unlock hi hp ht => exact .inr (.inr ⟨hi, .inl ⟨hp, by rw [ht]; rfl⟩⟩)
  case command hi hp ht => exact .inr (.inr ⟨hi, .inr (.inl ⟨hp, by rw [ht]; rfl⟩)⟩)
  case finished hi hp ht => exact .inr (.inr ⟨hi, .inr (.inr ⟨hp, by rw [ht]; rfl, by rw [ht]; rfl⟩)⟩)

/-- Only acceptance stores a frame, and it needs Idle. -/
theorem Change.frame_eq {i : Instr} {s t : State} (h : Change i s t) (hp : s.tx.progress ≠ .idle) :
    t.tx.frame = s.tx.frame := by
  cases h
  case byte tag b now _ ht => rw [ht, rxByte_tx]
  case watchdog now _ ht => rw [ht, checkWatchdog_tx]
  case accepted _ _ _ hidle _ => exact absurd hidle hp
  all_goals subst_vars; rfl

/-! ## Runs -/

theorem takeEvent_change {i : Instr} {s t : State} (hi : ∀ tag, i ≠ .init tag) (h : takeEvent i s = .next t) :
    Change i (s.sampleTick i.now?) t :=
  exec_change hi h

theorem NoInit.head {i : Instr} {is : List Instr} (h : NoInit (i :: is)) : ∀ tag, i ≠ .init tag :=
  h i List.mem_cons_self

theorem NoInit.tail {i : Instr} {is : List Instr} (h : NoInit (i :: is)) : NoInit is :=
  fun j hj => h j (List.mem_cons_of_mem i hj)

/-- Settles O51: by induction on the events; no event of the run meets Idle, so none stores another frame. -/
theorem storedCommandIsKept : Obligations.StoredCommandIsKept := by
  intro is
  induction is with
  | nil =>
    intro s t _ _ h _
    cases h
    rfl
  | cons i is ih =>
    intro s t hp hno h hbusy
    obtain ⟨u, hu, hrun⟩ := takeEvents_cons_cases h
    have hfirst : u.tx.frame = s.tx.frame := (takeEvent_change (NoInit.head hno) hu).frame_eq hp
    have hrest : t.tx.frame = u.tx.frame :=
      ih u t (hbusy 1 u (takeEvents_cons_next hu)) (NoInit.tail hno) hrun
        fun k v hv => hbusy (k + 1) v ((takeEvents_cons_next hu).trans hv)
    exact hrest.trans hfirst

/-- In a waiting stage a DRIVE before the window has elapsed does nothing (R187, R188). -/
theorem drive_of_early {s : State} (now : Tick) (hp : s.tx.progress = .unlockSent ∨ s.tx.progress = .commandSent)
    (hgap : ticksBetween now s.tx.ts < 10) : drive now s = s := by
  rcases hp with hp | hp
  · rw [drive_of_unlockSent now hp, if_neg (by omega)]
  · rw [drive_of_commandSent now hp, if_neg (by omega)]

/-- Settles O53: by induction on the calls, each of which leaves only its tick in the tick input. -/
theorem earlyDrivesAreHarmless : Obligations.EarlyDrivesAreHarmless := by
  intro ticks
  induction ticks with
  | nil => exact fun _ _ _ _ => rfl
  | cons now ticks ih =>
    intro s hi hp hearly
    have hevent : takeEvent (.drive now) s = .next (s.sampleTick (some now)) := by
      refine (exec_drive (s := s.sampleTick (some now)) now hi).trans (congrArg _ ?_)
      exact drive_of_early (s := s.sampleTick (some now)) now hp (hearly now List.mem_cons_self)
    rw [List.map_cons, takeEvents_cons_next hevent,
      ih (s.sampleTick (some now)) hi hp fun n hn => hearly n (List.mem_cons_of_mem now hn), List.getLast?_cons]
    rfl

/-! ## The protocol of the output -/

theorem Protocol.after_append {p q r : Protocol} {as bs : List Action} (has : p.after as = some q)
    (hbs : q.after bs = some r) : p.after (as ++ bs) = some r := by
  induction as generalizing p with
  | nil =>
    cases has
    exact hbs
  | cons a as ih =>
    simp only [Protocol.after, List.cons_append] at has ⊢
    split at has
    · simp only [ih has]
    · cases has

/-- Each change makes its move of the protocol (R74). -/
theorem Change.follows_protocol {i : Instr} {s t : State} (h : Change i s t) (hheader : CommandHasHeader s) :
    ∃ acts, t.trace = s.trace ++ acts ∧ (protocolOf s).after acts = some (protocolOf t) := by
  cases h
  case byte tag b now _ ht =>
    rcases rxByte_frame tag b now s with e | ⟨_, _, _, e⟩
    · exact ⟨[], by rw [ht, e, List.append_nil], by rw [ht, e]; rfl⟩
    · exact ⟨[.rxArm], by rw [ht, e], by rw [ht, e]; rfl⟩
  case watchdog now _ ht =>
    rcases checkWatchdog_cases now s with ⟨-, -, e⟩ | ⟨-, e⟩
    · exact ⟨[.rxArm], by rw [ht, e]; rfl, by rw [ht, e]; rfl⟩
    · exact ⟨[], by rw [ht, e, List.append_nil], by rw [ht, e]; rfl⟩
  case frame ht | waiting ht => exact ⟨[], by rw [ht, List.append_nil], by rw [ht]; rfl⟩
  case busy _ _ _ _ ht => exact ⟨[.status .busy], by rw [ht]; rfl, by rw [ht]; rfl⟩
  case accepted _ _ _ hp ht =>
    exact ⟨[.status .ok], by rw [ht]; rfl, by simp [ht, protocolOf, hp, Protocol.after, Protocol.next]⟩
  case unlock _ _ hp ht =>
    exact ⟨[.tx Config.UNLOCK], by rw [ht]; rfl, by simp [ht, protocolOf, hp, Protocol.after, Protocol.next]⟩
  case command _ _ hp ht =>
    obtain ⟨h0, h1⟩ := hheader (by simp [hp])
    exact ⟨[.tx s.tx.frame], by rw [ht]; rfl, by simp [ht, protocolOf, hp, Protocol.after, Protocol.next, h0, h1]⟩
  case finished _ hp ht =>
    exact ⟨[], by rw [ht]; simp, by simp [ht, protocolOf, hp, Protocol.after]⟩

/-- Settles O54: by induction on the events; the header of a command in flight comes along as the invariant. -/
theorem traceFollowsProtocol : Obligations.TraceFollowsProtocol := by
  intro is
  induction is with
  | nil =>
    intro s t _ _ h
    cases h
    exact ⟨[], (List.append_nil _).symm, rfl⟩
  | cons i is ih =>
    intro s t hheader hno h
    obtain ⟨u, hu, hrun⟩ := takeEvents_cons_cases h
    have hchange := takeEvent_change (NoInit.head hno) hu
    obtain ⟨acts, htrace, hfirst⟩ := hchange.follows_protocol hheader
    obtain ⟨acts', htrace', hrest⟩ := ih u t (commandHasHeader_of_change hchange hheader) (NoInit.tail hno) hrun
    exact ⟨acts ++ acts', by rw [htrace', htrace, sampleTick_trace, List.append_assoc],
      Protocol.after_append hfirst hrest⟩

end Sys2Proof.Machine
end

section
/-! PROOF. The watchdog over runs (44_watchdog.md R230 to R238), elapsed ticks (60_exceptions.md R266), and what each
event may write (10_state.md R53). -/

namespace Sys2Proof.Machine

open Sys2Proof.Safety

/-! ## Elapsed ticks -/

/-- Settles O59: the tick cancels, and what is left is `d`, or its complement. -/
theorem elapsedIsModular : Obligations.ElapsedIsModular := by
  intro t d hd
  have hmod : d % 2 ^ 32 = d := Nat.mod_eq_of_lt hd
  refine ⟨?_, fun hne => ?_⟩
  · rw [elapsed, add_sub_cancel_left, BitVec.toNat_ofNat, hmod]
  · rw [elapsed, sub_sub_cancel_left, BitVec.toNat_neg, BitVec.toNat_ofNat, hmod,
      Nat.mod_eq_of_lt (Nat.sub_lt (Nat.two_pow_pos _) (Nat.pos_of_ne_zero hne))]

/-! ## CHECKWATCHDOG -/

theorem exec_checkWatchdog {s : State} (now : Tick) (h : s.initialised = true) :
    exec (.checkWatchdog now) s = .next (checkWatchdog now s) :=
  afterInit_of_initialised _ h

theorem checkWatchdog_eq (now : Tick) (s : State) :
    checkWatchdog now s =
      if 100 < ticksBetween now s.sensor.lastFrameTs ∧ 100 ≤ ticksBetween now s.wdRestartTs then
        restartReception now s
      else s := by
  simp only [checkWatchdog, Bool.and_eq_true, stale_iff, restartDue_iff]

/-- Settles O55: the two tests are comparisons of elapsed ticks. -/
theorem watchdogRestartsExactlyWhenDue : Obligations.WatchdogRestartsExactlyWhenDue := by
  intro now s hi
  rw [exec_checkWatchdog now hi, checkWatchdog_eq]
  rfl

/-- Within 100 ticks of a restart the rate limit stops the next one (R232). -/
theorem checkWatchdog_of_recent {s : State} {now : Tick} (h : ticksBetween now s.wdRestartTs < 100) :
    checkWatchdog now s = s := by
  rw [checkWatchdog_eq, if_neg fun hdue => by omega]

/-- Only CHECKWATCHDOG past its rate limit writes the restart tick. -/
theorem Change.wdRestartTs_eq {i : Instr} {s t : State} (h : Change i s t)
    (hrecent : ∀ n, i = .checkWatchdog n → ticksBetween n s.wdRestartTs < 100) : t.wdRestartTs = s.wdRestartTs := by
  cases h
  case byte tag b now _ ht =>
    rcases rxByte_frame tag b now s with e | ⟨_, _, _, e⟩ <;> rw [ht, e]
  case watchdog now hi ht => rw [ht, checkWatchdog_of_recent (hrecent now hi)]
  all_goals subst_vars; rfl

/-- Settles O56: by induction on the events; the restart tick is the invariant, and the rate limit keeps it. -/
theorem restartsAreSpaced : Obligations.RestartsAreSpaced := by
  intro is now later
  induction is with
  | nil =>
    intro s t hi hts _ _ h
    cases h
    refine ⟨hts, fun hlater => ?_⟩
    rw [exec_checkWatchdog later hi, checkWatchdog_of_recent (by rw [hts]; exact hlater)]
  | cons i is ih =>
    intro s t hi hts hno hrecent h
    obtain ⟨u, hu, hrun⟩ := takeEvents_cons_cases h
    have hchange := takeEvent_change (NoInit.head hno) hu
    have hkept : u.wdRestartTs = s.wdRestartTs := by
      refine hchange.wdRestartTs_eq fun n hn => ?_
      rw [sampleTick_wdRestartTs, hts]
      exact hrecent i List.mem_cons_self n hn
    exact ih u t (hchange.initialised_eq.trans hi) (hkept.trans hts) (NoInit.tail hno)
      (fun j hj => hrecent j (List.mem_cons_of_mem i hj)) hrun

/-! ## What each event may write -/

/-- Settles O57: each change names the registers it writes. -/
theorem eachEventWritesOnlyItsRegisters : Obligations.EachEventWritesOnlyItsRegisters := by
  intro i s t hinit h
  cases exec_change hinit h
  case frame hi _ _ ht =>
    subst ht
    exact ⟨rfl, .inr (.inl hi), .inl rfl, .inl rfl, .inl rfl⟩
  case byte tag b now hi ht =>
    have hbyte : ∃ tag b now, i = .rxByte tag b now := ⟨tag, b, now, hi⟩
    subst ht
    rcases rxByte_frame tag b now s with e | ⟨_, _, _, e⟩ <;> rw [e] <;>
      exact ⟨rfl, .inr (.inr hbyte), .inr (.inr hbyte), .inl rfl, .inl rfl⟩
  case busy ht | waiting ht =>
    subst ht
    exact ⟨rfl, .inl ⟨rfl, rfl⟩, .inl rfl, .inl rfl, .inl rfl⟩
  case accepted _ _ hi _ ht =>
    subst ht
    exact ⟨rfl, .inl ⟨rfl, rfl⟩, .inl rfl, .inr (.inl ⟨by rw [hi]; rfl, rfl⟩), .inl rfl⟩
  case unlock hi _ ht | command hi _ ht | finished hi _ ht =>
    subst ht
    exact ⟨rfl, .inl ⟨rfl, rfl⟩, .inl rfl, .inr (.inr ⟨hi, rfl⟩), .inl rfl⟩
  case watchdog now hi ht =>
    subst ht
    rcases checkWatchdog_cases now s with ⟨-, -, e⟩ | ⟨-, e⟩ <;> rw [e]
    · exact ⟨rfl, .inl ⟨rfl, rfl⟩, .inr (.inl ⟨now, hi, rfl⟩), .inl rfl, .inr ⟨now, hi⟩⟩
    · exact ⟨rfl, .inl ⟨rfl, rfl⟩, .inl rfl, .inl rfl, .inl rfl⟩

end Sys2Proof.Machine
end

section
/-! PROOF. The error classes (60_exceptions.md R250 to R256): which class an event falls into, and what an event of each
class leaves unchanged. -/

namespace Sys2Proof.Machine

open Sys2Proof.Safety

/-! ## The classes of a frame -/

/-- The type code is examined only after the checksum has matched (R262 (ii)). -/
theorem frameError_cases (buf : Vector Byte Config.RX_LEN) :
    (frameValid buf ≠ true ∧ frameError buf = some .checksumFailure) ∨
      (frameValid buf = true ∧ recognisedType buf[1] = false ∧ frameError buf = some .unrecognisedType) ∨
      frameError buf = none := by
  unfold frameError
  cases hvalid : frameValid buf <;> cases htype : recognisedType buf[1] <;> simp

/-- A type code without a row has no arm to run (R157). -/
theorem decodeByType_of_not_recognised {buf : Vector Byte Config.RX_LEN} (now : Tick) (s : State)
    (h : recognisedType buf[1] = false) : decodeByType buf now s = s := by
  obtain ⟨hacc, hgyro, hangle, hmag, hecho⟩ := (recognisedType_eq_false_iff _).mp h
  simp only [decodeByType, if_neg hacc, if_neg hgyro, if_neg hangle, if_neg hmag, if_neg hecho, decodeOther_eq]

/-! ## Effects by class -/

/-- What 60_exceptions.md R250 to R255 ask of an event of class `c` that takes `s` to `t`. -/
def ClassEffects (c : Option ErrorClass) (s t : State) : Prop :=
  (∃ acts : List Action, t.trace = s.trace ++ acts ∧ (Action.status .busy ∈ acts ↔ c = some .busy)) ∧
  (c = some .transportMismatch → t = s) ∧
  (c = some .framingError ∨ c = some .checksumFailure → t.sensor = s.sensor ∧ t.angleTs = s.angleTs) ∧
  (c = some .unrecognisedType →
    t.sensor = { s.sensor with lastFrameTs := t.sensor.lastFrameTs } ∧ t.angleTs = s.angleTs)

/-- An event of no class, or of E6, only has to report nothing. -/
theorem classEffects_of_harmless {c : Option ErrorClass} {s t : State} {acts : List Action}
    (hc : c = none ∨ c = some .linkStaleness) (htrace : t.trace = s.trace ++ acts) (hbusy : .status .busy ∉ acts) :
    ClassEffects c s t := by
  rcases hc with rfl | rfl <;> exact ⟨⟨acts, htrace, by simp [hbusy]⟩, by simp, by simp, by simp⟩

/-- A frame, as a word of its own or completed by a byte, is of class E3, E4 or none; `u` is the state it is validated
in. -/
theorem classEffects_frame {buf : Vector Byte Config.RX_LEN} {now : Tick} {arm : State → State} {s u t : State}
    {acts : List Action}
    (hsensor : t.sensor = (acceptFrame buf now arm u).sensor) (hangle : t.angleTs = (acceptFrame buf now arm u).angleTs)
    (hsensor' : u.sensor = s.sensor) (hangle' : u.angleTs = s.angleTs) (htrace : t.trace = s.trace ++ acts)
    (hbusy : .status .busy ∉ acts) (harm : recognisedType buf[1] = false → arm u = u) :
    ClassEffects (frameError buf) s t := by
  rcases frameError_cases buf with ⟨hbad, e⟩ | ⟨hvalid, htype, e⟩ | e
  · rw [acceptFrame_of_invalid _ _ _ hbad] at hsensor hangle
    rw [e]
    exact ⟨⟨acts, htrace, by simp [hbusy]⟩, by simp, fun _ => ⟨hsensor.trans hsensor', hangle.trans hangle'⟩, by simp⟩
  · rw [acceptFrame_of_valid _ _ _ hvalid, harm htype] at hsensor hangle
    rw [e]
    refine ⟨⟨acts, htrace, by simp [hbusy]⟩, by simp, by simp, fun _ => ⟨?_, hangle.trans hangle'⟩⟩
    rw [hsensor, stampLink_sensor, hsensor']
  · rw [e]
    exact classEffects_of_harmless (.inl rfl) htrace hbusy

/-- A frame word is validated in the state it is applied to. -/
theorem classEffects_frameWord {buf : Vector Byte Config.RX_LEN} {now : Tick} {arm : State → State} {s : State}
    (hemits : Emits arm s []) (harm : recognisedType buf[1] = false → arm s = s) :
    ClassEffects (frameError buf) s (acceptFrame buf now arm s) :=
  classEffects_frame rfl rfl rfl rfl (emits_acceptFrame buf now hemits).trace_eq List.not_mem_nil harm

/-- ISSUE and the wrappers report `Busy` exactly while a command is in flight (R255). -/
theorem classEffects_issue (reg : Byte) (val : Half) (s : State) :
    ClassEffects (issueError s) s (issueCommand reg val s) := by
  rcases issueCommand_cases reg val s with ⟨hp, e⟩ | ⟨hp, e⟩
  · have hclass : issueError s = some .busy := by simp [issueError, Machine.busy, hp]
    rw [e, hclass]
    exact ⟨⟨[.status .busy], rfl, by simp⟩, by simp, by simp, by simp⟩
  · have hclass : issueError s = none := by simp [issueError, Machine.busy, hp]
    rw [e, hclass]
    exact classEffects_of_harmless (acts := [.status .ok]) (.inl rfl) rfl (by simp)

/-- A received byte is of the class of the frame it completes, and of none if it completes no frame (R250). -/
theorem classEffects_receiveByte (b : Byte) (now : Tick) (s : State) :
    ClassEffects (if frameComplete (s.pushByte b) then frameError (s.pushByte b).rx.buf else none) s
      ((receiveByte b now (s.setRxLast b)).emit .rxArm) := by
  have htrace : ((receiveByte b now (s.setRxLast b)).emit .rxArm).trace = s.trace ++ [.rxArm] := by
    rw [emit_trace, (emits_receiveByte b now (s.setRxLast b)).trace_eq, List.append_nil, setRxLast_trace]
  split_ifs with hfull
  · have hready : receiveByte b now (s.setRxLast b) = frameReady now ((s.setRxLast b).pushByte b) := if_pos hfull
    refine classEffects_frame (now := now) (u := ((s.setRxLast b).pushByte b).clearCursor) ?_ ?_ rfl rfl htrace
      (by simp) (decodeByType_of_not_recognised now _)
    · rw [hready]; rfl
    · rw [hready]; rfl
  · exact classEffects_of_harmless (.inl rfl) htrace (by simp)

theorem classEffects_rxByte (tag : Tag) (b : Byte) (now : Tick) (s : State) :
    ClassEffects (byteError tag b s) s (rxByte tag b now s) := by
  unfold byteError
  rcases rxByte_cases tag b now s with ⟨htag, e⟩ | ⟨htag, hc, hb, e⟩ | ⟨htag, hb, e⟩
  · rw [e, if_pos htag]
    exact ⟨⟨[], (List.append_nil _).symm, by simp⟩, by simp, by simp, by simp⟩
  · rw [e, if_neg (not_not.mpr htag), if_pos ⟨by simp [awaitingSync, hc], hb⟩]
    exact ⟨⟨[.rxArm], rfl, by simp⟩, by simp, fun _ => ⟨rfl, rfl⟩, by simp⟩
  · have hreceived : ¬ (awaitingSync s = true ∧ b ≠ Config.SYNC) := by
      rintro ⟨hc, hne⟩
      exact hb.elim (fun h => h (by simpa [awaitingSync] using hc)) hne
    rw [e, if_neg (not_not.mpr htag), if_neg hreceived]
    exact classEffects_receiveByte b now s

theorem classEffects_unchanged (s : State) : ClassEffects none s s :=
  classEffects_of_harmless (.inl rfl) (List.append_nil _).symm List.not_mem_nil

theorem classEffects_sendUnlock (now : Tick) (s : State) : ClassEffects none s (sendUnlock now s) :=
  classEffects_of_harmless (.inl rfl) (sendUnlock_trace s now) (by simp)

theorem classEffects_sendCommand (now : Tick) (s : State) : ClassEffects none s (sendCommand now s) :=
  classEffects_of_harmless (.inl rfl) (sendCommand_trace s now) (by simp)

theorem classEffects_drive (now : Tick) (s : State) : ClassEffects none s (drive now s) := by
  rcases drive_cases now s with e | ⟨-, e⟩ | ⟨-, -, e⟩ | ⟨-, -, e⟩ <;> rw [e]
  · exact classEffects_unchanged s
  · exact classEffects_sendUnlock now s
  · exact classEffects_sendCommand now s
  · exact classEffects_of_harmless (.inl rfl) (List.append_nil _).symm List.not_mem_nil

theorem classEffects_checkWatchdog (now : Tick) (s : State) :
    ClassEffects (if stale now s then some .linkStaleness else none) s (checkWatchdog now s) := by
  have hclass : ∀ c : Bool, (if c then some ErrorClass.linkStaleness else none) = none ∨
      (if c then some ErrorClass.linkStaleness else none) = some .linkStaleness := by decide
  rcases checkWatchdog_cases now s with ⟨-, -, e⟩ | ⟨-, e⟩ <;> rw [e]
  · exact classEffects_of_harmless (hclass _) (restartReception_trace s now) (by simp)
  · exact classEffects_of_harmless (hclass _) (List.append_nil _).symm List.not_mem_nil

/-- Settles O58: a frame word, a byte and a command each have their classes, and every other instruction reports
nothing. -/
theorem errorClassEffects : Obligations.ErrorClassEffects := by
  intro i s t h
  obtain ⟨rfl, -⟩ := exec_eq_next h
  show ClassEffects (errorClass i s) s (effect i s)
  cases i
  case frameAcc | frameGyro | frameAngle | frameMag | frameEcho =>
    exact classEffects_frameWord (emits_nil fun _ _ => rfl) fun htype => by cases htype
  case frameOther type d cs => exact classEffects_frameWord (emits_nil fun _ _ => rfl) fun _ => rfl
  case rxByte tag b now => exact classEffects_rxByte tag b now s
  case issue | save | calibrate | setOutputContent | setOutputRate | setBaudRate => exact classEffects_issue _ _ s
  case drive now => exact classEffects_drive now s
  case checkWatchdog now => exact classEffects_checkWatchdog now s
  case init tag => exact classEffects_of_harmless (.inl rfl) (initialise_trace s tag) (by simp)
  case txUnlock =>
    rw [effect]
    split_ifs
    · exact classEffects_sendUnlock s.tickIn s
    · exact classEffects_unchanged s
  case txCommand =>
    rw [effect]
    split_ifs
    · exact classEffects_sendCommand s.tickIn s
    · exact classEffects_unchanged s

end Sys2Proof.Machine
end
